-- ==== Sys2Proof/Word.lean ====
section
/-! DEFINITION. The widths the spec's fields have on its two links, the slot index, and saturating counts. -/

namespace Sys2Proof

/-- One character's data on either link (R99, R149). -/
abbrev Byte := BitVec 8

/-- A two-byte field: sequence numbers, tickets, parameter values, vendor and fault codes (R175). -/
abbrev Half := BitVec 16

/-- A four-byte field: serial numbers and part-wide counters (R175). -/
abbrev Word := BitVec 32

/-- One of the 24 module positions. Slot n of the spec is the index n - 1 (00 section 0.7). -/
abbrev Slot := Fin 24

/-- A counter's increment: at the largest value it leaves the counter at that value (00 section 0.7). -/
def satInc (c : BitVec w) : BitVec w := if c = BitVec.allOnes w then c else c + 1

end Sys2Proof
end

