-- ==== Sys2Proof/Syntax.lean ====
section
/-! DEFINITION. The commands: one constructor of Instr for each row of spec/opcode_table.json. -/

namespace Sys2Proof

/-- The eight bytes of an admission entry as a request carries them (Table 11-2, note 1). -/
structure EntryBytes where
  valid : Byte
  vendorMatch : Byte
  vendor : Half
  classMatch : Byte
  cls : Byte
  minRevision : Byte
  action : Byte
  deriving DecidableEq, Repr

/-- The eleven bits of a character on SBDAT in the order sent, the first as bit 0: start bit, eight data bits, parity bit,
stop bit (R99). -/
abbrev BusBits := BitVec 11

/-- What begins with the falling edge of a start bit: a start bit up to its middle (R107), or characters on HRXD up to the
end of the last one (R150). -/
structure Span where
  start : Nat
  stop : Nat
  deriving DecidableEq, Repr

/-- The commands. `t` is the instant of the event, in us ticks of the part's time base (log 1); a command of a start bit
or of characters on HRXD carries their span, and its event is the end of it. A request's operands are its SEQ and the
fields of its
payload (Table 11-2); the command is the completion of that frame (log 9). -/
inductive Instr where
  /-- COLD_RESET: RESET_N falls. -/
  | coldReset (t : Nat)
  /-- RESET_N_RISE: with the levels of the straps and of the 24 presence lines then present. -/
  | resetNRise (t : Nat) (rate1 rate0 : Bool) (levels : Vector Bool 24)
  | presenceEdgeInInit (t : Nat) (i : Slot)
  | settleDeadlineInInit (t : Nat) (i : Slot)
  | risingEdgeInLow (t : Nat) (i : Slot)
  | bounce (t : Nat) (i : Slot)
  | riseSettleDeadline (t : Nat) (i : Slot)
  | fallingEdgeInHigh (t : Nat) (i : Slot)
  /-- RISING_EDGE_IN_FALL_MEASURING: with the low time the classifier measured (R32, R39). -/
  | risingEdgeInFallMeasuring (t : Nat) (i : Slot) (measured : Nat)
  | lowTimeDeadline (t : Nat) (i : Slot)
  | powerupDeadlineExpiry (t : Nat) (i : Slot)
  | pollTimerExpiry (t : Nat) (i : Slot)
  | healthTimerExpiry (t : Nat) (i : Slot)
  | drainTimerExpiry (t : Nat) (i : Slot)
  | attemptStart (t : Nat)
  | requestSent (t : Nat)
  | responseTimeoutExpiry (t : Nat)
  /-- RESPONSE_ERROR, RESPONSE_CHECK_BYTE and RESPONSE_CHARACTER: with the bits received (R107). -/
  | responseError (t : Nat) (bits : BusBits)
  | responseCheckByte (t : Nat) (bits : BusBits)
  | responseGapExpiry (t : Nat)
  | drainIdleExpiry (t : Nat)
  | drainLimitExpiry (t : Nat)
  /-- TURNAROUND_END: at the very instant of the quiet point, `quietFirst` says the quiet point was taken first (R128). -/
  | turnaroundEnd (t : Nat) (quietFirst : Bool)
  | cycleStart (t : Nat)
  | beaconFrameEnd (t : Nat)
  | resendTimerExpiry (t : Nat)
  | hlFramingError (span : Span)
  | hlLengthAbort (span : Span) (b : Byte)
  | hlGapAbort (t : Nat)
  /-- HL_CRC_ERROR: a frame completes whose received CRC-16 is `crc`. -/
  | hlCrcError (span : Span) (kind seq : Byte) (payload : List Byte) (crc : Half)
  | unknownKindFrame (span : Span) (kind seq : Byte) (payload : List Byte)
  | txFrameEnd (t : Nat)
  | ident (span : Span) (seq : Byte)
  | restartWarm (span : Span) (seq : Byte)
  | restartCold (span : Span) (seq : Byte)
  | slotQuery (span : Span) (seq slot : Byte)
  | release (span : Span) (seq slot : Byte)
  | clear (span : Span) (seq slot : Byte)
  | slotIdentity (span : Span) (seq slot : Byte)
  | admissionWrite (span : Span) (seq index : Byte) (entry : EntryBytes)
  | admissionRead (span : Span) (seq index : Byte)
  | admitSlot (span : Span) (seq slot : Byte)
  | relay (span : Span) (seq slot : Byte) (payload : List Byte)
  | beaconWrite (span : Span) (seq index state interval phase : Byte) (payload : List Byte)
  | beaconStop (span : Span) (seq index : Byte)
  | beaconRead (span : Span) (seq index : Byte)
  | noteAck (span : Span) (seq : Byte) (number : Half)
  | setParam (span : Span) (seq id : Byte) (value : Half)
  | getParam (span : Span) (seq id : Byte)
  | countersRead (span : Span) (seq group : Byte)
  | countersClear (span : Span) (seq group : Byte)
  | responseStartBit (span : Span)
  | responseCharacter (t : Nat) (bits : BusBits)
  | hlGoodCharacter (span : Span) (b : Byte)
  deriving DecidableEq, Repr

end Sys2Proof
end

