-- ==== Sys2Proof/Decode.lean ====
section
/-! DEFINITION. No row of the command table gives bits: a command is an event, not a word. -/

namespace Sys2Proof

/-- The command a word spells by the table's bits: none, for no row has any. -/
def decodeTableWord (_nbits _w : Nat) : Option Instr := none

end Sys2Proof
end

