-- ==== Sys2Proof/Config.lean ====
section
/-! DEFINITION. The constants the spec fixes for the part. The spec leaves no result of an event undefined, so there is
no free value here. -/

namespace Sys2Proof.Config

/-- The sync character of a host link frame (Table 11-1). -/
def sync : Byte := 0xA5

/-- The largest LEN the receiver accepts (R152). -/
def maxLen : Nat := 56

/-- IDENT: product code, silicon revision, slot count, protocol version (R162, Table 11-2). -/
def productCode : Half := 0x0C18
def siliconRevision : Byte := 0x01
def slotCount : Byte := 24
def protocolVersion : Byte := 1

/-- The gap that abandons a host link frame, in us (R153). -/
def hostGap : Nat := 5000

/-- The largest number of notifications stored other than by a LOSS marker (R138), and of outstanding relays (R82). -/
def noteRoom : Nat := 62
def relayQuota : Nat := 8

/-- Bytes of a relay's response carried to the host (R95). -/
def relayCarried : Nat := 24

/-- The largest consecutive_failures (R19). -/
def maxFailures : Nat := 15

/-- The accuracy of a duration of `d` us: 0.5 % of it plus one tick (00 section 0.7). -/
def tolerance (d : Nat) : Nat := d / 200 + 1

end Sys2Proof.Config
end

