-- ==== Sys2Proof/Machine/State.lean ====
section
/-! DEFINITION. The state of the part, block by block (00 Table 0-1), as plain data, and the state right after reset. -/

namespace Sys2Proof.Machine

/-! ### Time -/

/-- A running timer or measurement: the instant it started and its duration, in us. -/
structure Timer where
  start : Nat
  dur : Nat
  deriving DecidableEq, Repr

/-- What a character receiver waits for between characters (R107, R150): a falling edge from the instant `free` on; with
`heldLow`, the line was low at that instant, after a low stop bit, so that it must be high before the edge. -/
structure EdgeWait where
  free : Nat
  heldLow : Bool
  deriving DecidableEq, Repr

/-! ### LC: line classifiers (chapter 2) -/

/-- A settle measurement with its snapshot of LINE_SETTLE, in ms (R43). -/
structure Settle where
  start : Nat
  settle : Nat
  deriving DecidableEq, Repr

/-- A low-time measurement with its snapshots of LINE_GLITCH (us) and LINE_ATTN_LIMIT (units of 100 us) (R38). -/
structure LowTime where
  start : Nat
  glitch : Nat
  attn : Nat
  deriving DecidableEq, Repr

/-- A classifier record (Table 2-2): its state with what that state holds. INIT holds the level held and the settle
measurement; both are absent only while RESET_N is low (00 Table 0-4, note 3). -/
inductive Classifier where
  | init (held : Option (Bool × Settle))
  | low
  | riseSettling (m : Settle)
  | high
  | fallMeasuring (m : LowTime)
  deriving DecidableEq, Repr

/-! ### SC: slot records (chapter 1) -/

/-- The ten lifecycle states (Table 1-2). -/
inductive SlotState where
  | unknown | vacant | identifying | pending | queued | enabling | active | releasing | parked | faulted
  deriving DecidableEq, Repr

/-- The reason codes (Table 1-3). -/
inductive Reason where
  | firstSeen | lineArrival | lineDeparture | identifiedHold | identifiedAdmit | identifiedRefuse | exceedsLimit
  | identifyFailed | identityInvalid | hostAdmit | limitLowered | enableGranted | ready | enableTimeout | moduleFailed
  | hostRelease | moduleRequest | standDownConfirmed | standDownUnconfirmed | sidebandFault | hostClear | warmRestart
  deriving DecidableEq, Repr

inductive ReadyMethod where
  | pulse | poll
  deriving DecidableEq, Repr

/-- The identity record (Table 3-1). -/
structure Identity where
  vendor : Half
  cls : Byte
  revision : Byte
  serial : Word
  units : Nat
  ready : ReadyMethod
  name : List Byte
  deriving DecidableEq, Repr

inductive AdmittedBy where
  | table | host
  deriving DecidableEq, Repr

inductive Condition where
  | starting | ready | degraded | failed
  deriving DecidableEq, Repr

/-- The status record (Table 11-7). -/
structure StatusRecord where
  condition : Condition
  standDown : Bool
  faultCode : Half
  text : List Byte
  deriving DecidableEq, Repr

/-- The slot record (Table 1-1) and the slot's enable output (R4). -/
structure SlotRecord where
  state : SlotState
  reason : Reason
  identity : Option Identity
  admittedBy : Option AdmittedBy
  attentionLatched : Bool
  reportOwed : Bool
  failures : Nat
  lastStatus : Option StatusRecord
  standDownConfirmed : Bool
  powerup : Option Timer
  poll : Option Timer
  health : Option Timer
  drain : Option Timer
  enable : Bool
  deriving DecidableEq, Repr

/-- The slot record a cold reset leaves (R2). -/
def SlotRecord.cold : SlotRecord :=
  { state := .unknown, reason := .firstSeen, identity := none, admittedBy := none, attentionLatched := false,
    reportOwed := false, failures := 0, lastStatus := none, standDownConfirmed := false, powerup := none, poll := none,
    health := none, drain := none, enable := false }

/-! ### AT: admission table (chapter 3) -/

inductive MatchKind where
  | any | exact
  deriving DecidableEq, Repr

inductive AdmitAction where
  | admitModule | hold | refuse
  deriving DecidableEq, Repr

/-- An admission table entry (Table 3-2). -/
structure AdmissionEntry where
  valid : Bool
  vendorMatch : MatchKind
  vendor : Half
  classMatch : MatchKind
  cls : Byte
  minRevision : Byte
  action : AdmitAction
  deriving DecidableEq, Repr

/-- The entry a cold reset leaves (R52). -/
def AdmissionEntry.cold : AdmissionEntry :=
  { valid := false, vendorMatch := .any, vendor := 0, classMatch := .any, cls := 0, minRevision := 0, action := .hold }

/-! ### TQ: transactions (chapter 5) -/

/-- A transaction's kind; a relay carries its ticket (origin HOST) and its payload, the other kinds have origin INTERNAL
(Table 5-1). -/
inductive Work where
  | identify
  | status
  | standDown
  | relay (ticket : Half) (payload : List Byte)
  deriving DecidableEq, Repr

/-- A Transaction Queue entry (Table 5-1). -/
structure Transaction where
  slot : Slot
  work : Work
  attempts : Nat
  busy : Nat
  deriving DecidableEq, Repr

/-- The transaction in flight with its discard mark (R79). -/
structure InFlight where
  tx : Transaction
  discard : Bool
  deriving DecidableEq, Repr

/-! ### SE: the sideband engine (chapter 6) -/

/-- The failure kinds of an attempt (Table 6-7). -/
inductive FailureKind where
  | noResponse | parity | framing | check | mismatch | short | overlength
  deriving DecidableEq, Repr

/-- The outcome of an attempt; DONE carries the response body (R85, R113). -/
inductive AttemptOutcome where
  | done (body : List Byte)
  | busy
  | unsupported
  | failed (k : FailureKind)
  deriving DecidableEq, Repr

inductive SbRate where
  | r125 | r250 | r500 | r1000
  deriving DecidableEq, Repr

inductive EngineState where
  | idle | beacon | request | await | receive | turnaround
  deriving DecidableEq, Repr

/-- The field of a response expected next (Table 6-4); the number of payload bytes taken is the length of `rxPayload`. -/
inductive RxField where
  | address | operation | length | payload | check
  deriving DecidableEq, Repr

/-- The character receiver on SBDAT (R107, 00 Table 0-1): it waits for a falling edge, or it is within a
character whose start bit was valid, which is complete when `m`, running from its falling edge, has elapsed. -/
inductive CharReceiver where
  | waiting (w : EdgeWait)
  | inCharacter (m : Timer)
  deriving DecidableEq, Repr

/-- The engine record (Table 6-4), its driver direction output, the characters of the frame it sends, the payload it has
received, its measurements, and the character receiver. -/
structure Engine where
  state : EngineState
  sbdir : Bool
  rate : SbRate
  /-- snapshot of SB_RESPONSE_TIMEOUT, in units of 0.1 ms -/
  timeout : Nat
  frame : List BusBits
  position : RxField
  rxLength : Nat
  rxPayload : List Byte
  crc : Byte
  draining : Bool
  outcome : Option AttemptOutcome
  /-- the frame SE is sending ends with it (R98) -/
  wire : Option Timer
  responseTimeout : Option Timer
  gap : Option Timer
  drainIdle : Option Timer
  drainLimit : Option Timer
  turnaround : Option Timer
  receiver : CharReceiver
  deriving DecidableEq, Repr

/-- The engine a cold reset leaves (R120; the snapshots, the receive position and the CRC: log 21). -/
def Engine.cold (now : Nat) : Engine :=
  { state := .idle, sbdir := false, rate := .r250, timeout := 10, frame := [], position := .address, rxLength := 0,
    rxPayload := [], crc := 0, draining := false, outcome := none, wire := none, responseTimeout := none, gap := none,
    drainIdle := none, drainLimit := none, turnaround := none
    receiver := .waiting { free := now, heldLow := false } }

/-! ### CB: cycle and beacons (chapter 7) -/

inductive Window where
  | none | waiting | opened
  deriving DecidableEq, Repr

/-- The cycle record (Table 7-1), with period and guard in us. `quietTaken` is the model's own: the quiet point of this
cycle has been found reached (log 6). -/
structure Cycle where
  number : Half
  start : Nat
  period : Nat
  guardTime : Nat
  window : Window
  due : List (Fin 8)
  quietTaken : Bool
  deriving DecidableEq, Repr

inductive BeaconState where
  | idle | periodic | once
  deriving DecidableEq, Repr

/-- A beacon record (Table 7-3). -/
structure BeaconRecord where
  state : BeaconState
  interval : Byte
  phase : Byte
  payload : List Byte
  deriving DecidableEq, Repr

/-- The record a cold reset leaves (R125). -/
def BeaconRecord.cold : BeaconRecord := { state := .idle, interval := 1, phase := 0, payload := [0] }

/-! ### NQ: notifications (chapter 8) -/

inductive RestartKind where
  | warm | cold
  deriving DecidableEq, Repr

/-- How a relay ended (Table 5-4). FAILED with failure kind BUSY is `failedBusy`. -/
inductive RelayOutcome where
  | done (truncated : Bool) (response : List Byte)
  | unsupported
  | failed (k : FailureKind)
  | failedBusy
  | cancelled
  deriving DecidableEq, Repr

/-- The identity summary of a SLOT_CHANGE (R3). -/
structure Summary where
  vendor : Half
  cls : Byte
  revision : Byte
  units : Nat
  deriving DecidableEq, Repr

/-- A notification: kind and fields (Table 8-2). -/
inductive Note where
  | slotChange (i : Slot) (previous new : SlotState) (reason : Reason) (summary : Option Summary)
  | attention (i : Slot)
  | statusReport (i : Slot) (record : StatusRecord)
  | relayResult (ticket : Half) (i : Slot) (outcome : RelayOutcome) (attempts busy : Nat)
  | loss (count : Half)
  | restarted (kind : RestartKind)
  deriving DecidableEq, Repr

/-- A Notification Queue entry (Table 8-1). -/
structure NoteEntry where
  seq : Half
  note : Note
  sent : Bool
  deriving DecidableEq, Repr

/-! ### HL: the host link (chapter 9) -/

/-- Table 9-1. -/
inductive HostRate where
  | b115200 | b230400 | b460800 | b921600
  deriving DecidableEq, Repr

/-- The receiver with the characters of the frame in progress (R151). HEADER is the three states that wait for LEN, KIND
and SEQ; CHECK holds the first CRC character once it is taken. -/
inductive HlRx where
  | hunt
  | headerLen
  | headerKind (len : Byte)
  | headerSeq (len kind : Byte)
  | payload (len kind seq : Byte) (taken : List Byte)
  | check (kind seq : Byte) (payload : List Byte) (crcHigh : Option Byte)
  deriving DecidableEq, Repr

/-- Table 9-5. -/
inductive Refused where
  | state | exceedsLimit | queueFull | range | conflict | sequence | absent
  deriving DecidableEq, Repr

/-- A reply without its overrun flag (Table 11-3); `ok` carries the data of Table 11-2. -/
inductive Reply where
  | ok (data : List Byte)
  | accepted (ticket : Half)
  | refused (r : Refused)
  | badRequest
  deriving DecidableEq, Repr

/-- The intake: one request frame, the reply ready for it, the overrun flag, and the restart its reply makes pending
(R155, R159, R163). -/
structure Intake where
  kind : Byte
  seq : Byte
  payload : List Byte
  reply : Reply
  overrun : Bool
  restart : Option RestartKind
  deriving DecidableEq, Repr

/-- The reply cache entry (R156). -/
structure CacheEntry where
  seq : Byte
  kind : Byte
  reply : Reply
  deriving DecidableEq, Repr

/-- The ten bits of a character on HTXD in the order sent, the first as bit 0: start bit, eight data bits, stop bit (R149). -/
abbrev HostBits := BitVec 10

/-- The frame on HTXD: its characters and the time it takes (R149, R160). -/
structure TxFrame where
  chars : List HostBits
  timer : Timer
  deriving DecidableEq, Repr

/-! ### PC: parameters and counters (chapter 10) -/

/-- The values in force, each in the unit of Table 10-1. -/
structure Params where
  lineGlitch : Nat
  lineAttnLimit : Nat
  lineSettle : Nat
  budgetLimit : Nat
  staggerLimit : Nat
  powerupTimeout : Nat
  pollInterval : Nat
  healthInterval : Nat
  drainDelay : Nat
  faultLimit : Nat
  retryLimit : Nat
  sbRate : SbRate
  sbResponseTimeout : Nat
  cyclePeriod : Nat
  quietGuard : Nat
  noteWindow : Nat
  noteResend : Nat
  deriving DecidableEq, Repr

/-- The defaults of Table 10-1 (R167). -/
def Params.cold : Params :=
  { lineGlitch := 20, lineAttnLimit := 20, lineSettle := 50, budgetLimit := 0, staggerLimit := 1, powerupTimeout := 500,
    pollInterval := 20, healthInterval := 0, drainDelay := 100, faultLimit := 3, retryLimit := 2, sbRate := .r250,
    sbResponseTimeout := 10, cyclePeriod := 20, quietGuard := 20, noteWindow := 4, noteResend := 200 }

/-! ### The machine -/

structure State where
  now : Nat
  resetN : Bool
  hostRate : HostRate
  spres : Vector Bool 24
  /-- the instant of the sample that first read each presence line's present level (R32) -/
  edges : Vector Nat 24
  classifiers : Vector Classifier 24
  slots : Vector SlotRecord 24
  admission : Vector AdmissionEntry 16
  committed : Nat
  enablingCount : Nat
  admissionQueue : List Slot
  transactions : List Transaction
  inFlight : Option InFlight
  nextTicket : Half
  engine : Engine
  cycle : Cycle
  beacons : Vector BeaconRecord 8
  notes : List NoteEntry
  nextSeq : Half
  resendTimer : Option Timer
  /-- HL's character receiver on HRXD (R150) -/
  hrxd : EdgeWait
  rx : HlRx
  rxGap : Option Timer
  intake : Option Intake
  cache : Option CacheEntry
  tx : Option TxFrame
  restartPending : Option RestartKind
  params : Params
  partCounters : Vector Word 20
  slotCounters : Vector (Vector Half 7) 24
  pending : List Instr
  deriving DecidableEq, Repr

/-- The classifier a cold reset leaves: INIT; once the part runs, a settle measurement with the default S of 50 ms and
the level of the first sample (R34). -/
def Classifier.cold (now : Nat) (runs level : Bool) : Classifier :=
  .init (if runs then some (level, { start := now, settle := 50 }) else none)

/-- Cycle 0 as a cold reset starts it: period 10 ms, guard 2 ms (R124). -/
def Cycle.cold (now : Nat) : Cycle :=
  { number := 0, start := now, period := 10000, guardTime := 2000, window := .none, due := [], quietTaken := false }

/-- Every block at its cold values (R2, R34, R52, R62, R80, R120, R124, R125, R148, R165, R167, R171) at the instant
`now`, with RESET_N high (`runs`) or still low. -/
def State.cold (now : Nat) (runs : Bool) (rate : HostRate) (levels : Vector Bool 24) (pending : List Instr) : State :=
  { now := now, resetN := runs, hostRate := rate, spres := levels, edges := Vector.replicate 24 now
    classifiers := Vector.ofFn fun i => Classifier.cold now runs levels[i]
    slots := Vector.replicate 24 SlotRecord.cold
    admission := Vector.replicate 16 AdmissionEntry.cold
    committed := 0, enablingCount := 0, admissionQueue := []
    transactions := [], inFlight := none, nextTicket := 1
    engine := Engine.cold now
    cycle := Cycle.cold now
    beacons := Vector.replicate 8 BeaconRecord.cold
    notes := [{ seq := 0, note := .restarted .cold, sent := false }], nextSeq := 1, resendTimer := none
    hrxd := { free := now, heldLow := false }, rx := .hunt, rxGap := none, intake := none, cache := none, tx := none
    restartPending := none
    params := Params.cold
    partCounters := Vector.replicate 20 0
    slotCounters := Vector.replicate 24 (Vector.replicate 7 0)
    pending := pending }

/-- The machine right after reset: the instant of RESET_N's rising edge, every block at its cold value, no command
waiting. The instant 0, the straps low, low and the presence lines low are the model's choice (log 8). -/
def State.reset : State := State.cold 0 true .b115200 (Vector.replicate 24 false) []

/-- The spec names no event at which the part stops, so no constructor: no command faults. -/
inductive Fault where
  deriving DecidableEq, Repr

inductive Refusal where
  /-- Raised only by an arm of exec whose command has no meaning yet (safe: the model stops where the part goes on). -/
  | notModelled (mnemonic : String)
  deriving DecidableEq, Repr

end Sys2Proof.Machine
end

