-- ==== Sys2Proof/Machine/Operands.lean ====
section
/-! DEFINITION. Chapter 11: byte order, check sequences, code values, and the layouts of frames and records. -/

namespace Sys2Proof.Machine

/-! ### Byte order (R175) -/

/-- A two-byte field as sent, least significant byte first. -/
def halfBytes (h : Half) : List Byte := [h.setWidth 8, (h >>> 8).setWidth 8]

/-- A four-byte field as sent, least significant byte first. -/
def wordBytes (w : Word) : List Byte :=
  [w.setWidth 8, (w >>> 8).setWidth 8, (w >>> 16).setWidth 8, (w >>> 24).setWidth 8]

/-- The two-byte field of which `lo` came first. -/
def half (lo hi : Byte) : Half := hi ++ lo

/-- The four-byte field whose bytes came in the order given. -/
def word (b0 b1 b2 b3 : Byte) : Word := b3 ++ b2 ++ b1 ++ b0

def byte (n : Nat) : Byte := BitVec.ofNat 8 n
def boolByte (b : Bool) : Byte := if b then 1 else 0

/-! ### Check sequences (R175): each byte enters most significant bit first, no reflection, no final inversion -/

/-- One bit of a CRC register of width `n` with polynomial `p`. -/
def crcShift (p : BitVec w) (c : BitVec w) : BitVec w := if c.msb then (c <<< 1) ^^^ p else c <<< 1

/-- The eight bits of one byte. -/
def crcEight (p c : BitVec w) : BitVec w := Nat.repeat (crcShift p) 8 c

/-- CRC-8, polynomial 0x07: one byte into the register. -/
def crc8Byte (c b : Byte) : Byte := crcEight 0x07 (c ^^^ b)

/-- CRC-8 of a sequence of bytes, initial value 0x00 (R103). -/
def crc8 (bs : List Byte) : Byte := bs.foldl crc8Byte 0

/-- CRC-16, polynomial 0x1021: one byte into the register. -/
def crc16Byte (c : Half) (b : Byte) : Half := crcEight 0x1021 (c ^^^ (b ++ (0 : Byte)))

/-- CRC-16 of a sequence of bytes, initial value 0xFFFF. -/
def crc16 (bs : List Byte) : Half := bs.foldl crc16Byte 0xFFFF

/-! ### Code values (Tables 11-2, 11-4, 11-5, 11-8, 11-9) -/

def SlotState.code : SlotState → Byte
  | .unknown => 0 | .vacant => 1 | .identifying => 2 | .pending => 3 | .queued => 4 | .enabling => 5 | .active => 6
  | .releasing => 7 | .parked => 8 | .faulted => 9

def Reason.code : Reason → Byte
  | .firstSeen => 1 | .lineArrival => 2 | .lineDeparture => 3 | .identifiedHold => 4 | .identifiedAdmit => 5
  | .identifiedRefuse => 6 | .exceedsLimit => 7 | .identifyFailed => 8 | .identityInvalid => 9 | .hostAdmit => 10
  | .limitLowered => 11 | .enableGranted => 12 | .ready => 13 | .enableTimeout => 14 | .moduleFailed => 15
  | .hostRelease => 16 | .moduleRequest => 17 | .standDownConfirmed => 18 | .standDownUnconfirmed => 19
  | .sidebandFault => 20 | .hostClear => 21 | .warmRestart => 22

def Refused.code : Refused → Byte
  | .state => 1 | .exceedsLimit => 2 | .queueFull => 3 | .range => 4 | .conflict => 5 | .sequence => 6 | .absent => 7

def RestartKind.code : RestartKind → Byte
  | .warm => 1 | .cold => 2

def AdmittedBy.code : AdmittedBy → Byte
  | .table => 1 | .host => 2

def Condition.code : Condition → Byte
  | .starting => 1 | .ready => 2 | .degraded => 3 | .failed => 4

def Condition.ofCode (b : Byte) : Option Condition :=
  if b = 1 then some .starting else if b = 2 then some .ready else if b = 3 then some .degraded
  else if b = 4 then some .failed else none

def ReadyMethod.code : ReadyMethod → Byte
  | .pulse => 1 | .poll => 2

def ReadyMethod.ofCode (b : Byte) : Option ReadyMethod :=
  if b = 1 then some .pulse else if b = 2 then some .poll else none

def FailureKind.code : FailureKind → Byte
  | .noResponse => 1 | .parity => 2 | .framing => 3 | .check => 4 | .mismatch => 5 | .short => 6 | .overlength => 7

def MatchKind.code : MatchKind → Byte
  | .any => 0 | .exact => 1

def MatchKind.ofCode (b : Byte) : Option MatchKind :=
  if b = 0 then some .any else if b = 1 then some .exact else none

def boolOfCode (b : Byte) : Option Bool :=
  if b = 0 then some false else if b = 1 then some true else none

def AdmitAction.code : AdmitAction → Byte
  | .admitModule => 1 | .hold => 2 | .refuse => 3

def AdmitAction.ofCode (b : Byte) : Option AdmitAction :=
  if b = 1 then some .admitModule else if b = 2 then some .hold else if b = 3 then some .refuse else none

def BeaconState.code : BeaconState → Byte
  | .idle => 0 | .periodic => 1 | .once => 2

def BeaconState.ofCode (b : Byte) : Option BeaconState :=
  if b = 0 then some .idle else if b = 1 then some .periodic else if b = 2 then some .once else none

def SbRate.code : SbRate → Nat
  | .r125 => 0 | .r250 => 1 | .r500 => 2 | .r1000 => 3

def SbRate.ofCode (n : Nat) : Option SbRate :=
  if n = 0 then some .r125 else if n = 1 then some .r250 else if n = 2 then some .r500
  else if n = 3 then some .r1000 else none

/-- The operation field (Table 11-5). -/
def Work.code : Work → Byte
  | .identify => 1 | .status => 2 | .standDown => 3 | .relay _ _ => 4

def opBeacon : Byte := 5

/-- The slot a request's slot byte names: 1 to 24 (R177). -/
def slotOf (b : Byte) : Option Slot :=
  if h : b.toNat - 1 < 24 then if b = 0 then none else some ⟨b.toNat - 1, h⟩ else none

/-- The number of a slot as sent. -/
def slotByte (i : Slot) : Byte := byte (i.val + 1)

/-- The index byte of an admission entry (0 to 15) and of a beacon record (0 to 7) (R177). -/
def entryOf (b : Byte) : Option (Fin 16) := if h : b.toNat < 16 then some ⟨b.toNat, h⟩ else none
def beaconOf (b : Byte) : Option (Fin 8) := if h : b.toNat < 8 then some ⟨b.toNat, h⟩ else none

/-! ### Request kinds and accepted lengths (Table 11-2, R157) -/

def kindIdent : Byte := 0x01
def kindRestart : Byte := 0x02
def kindSlotQuery : Byte := 0x03
def kindRelease : Byte := 0x04
def kindClear : Byte := 0x05
def kindSlotIdentity : Byte := 0x06
def kindAdmissionWrite : Byte := 0x07
def kindAdmissionRead : Byte := 0x08
def kindAdmit : Byte := 0x09
def kindRelay : Byte := 0x0A
def kindBeaconWrite : Byte := 0x0B
def kindBeaconStop : Byte := 0x0C
def kindBeaconRead : Byte := 0x0D
def kindNoteAck : Byte := 0x0E
def kindSetParam : Byte := 0x0F
def kindGetParam : Byte := 0x10
def kindCountersRead : Byte := 0x11
def kindCountersClear : Byte := 0x12

/-- The payload lengths a KIND accepts, least and greatest; none for a KIND that names no request (Table 11-2). -/
def acceptedLengths (kind : Byte) : Option (Nat × Nat) :=
  if kind = kindIdent then some (0, 0)
  else if kind = kindAdmissionWrite then some (9, 9)
  else if kind = kindRelay then some (2, 25)
  else if kind = kindBeaconWrite then some (5, 36)
  else if kind = kindNoteAck then some (2, 2)
  else if kind = kindSetParam then some (3, 3)
  else if 0x02 ≤ kind.toNat ∧ kind.toNat ≤ 0x12 then some (1, 1)
  else none

/-- A frame of this KIND and LEN passes the host link's checks (R157). -/
def accepts (kind : Byte) (len : Nat) : Bool :=
  match acceptedLengths kind with
  | some (least, most) => decide (least ≤ len) && decide (len ≤ most)
  | none => false

/-- A frame that a row of the command table other than UNKNOWN_KIND_FRAME stands for: an accepted kind and length, and for
RESTART one of its two codes (R157, R163; log 10). -/
def spellsRequest (kind : Byte) (payload : List Byte) : Bool :=
  accepts kind payload.length
    && (decide (kind ≠ kindRestart) || decide (payload = [RestartKind.warm.code])
      || decide (payload = [RestartKind.cold.code]))

/-! ### Host link frames (Table 11-1) -/

/-- The bytes the CRC-16 covers: LEN, KIND, SEQ, payload. -/
def covered (kind seq : Byte) (payload : List Byte) : List Byte := byte payload.length :: kind :: seq :: payload

/-- The CRC-16 of a host link frame. -/
def frameCrc (kind seq : Byte) (payload : List Byte) : Half := crc16 (covered kind seq payload)

def crcHigh (c : Half) : Byte := (c >>> 8).setWidth 8
def crcLow (c : Half) : Byte := c.setWidth 8

/-- The values of a frame's characters: SYNC, the covered bytes, the CRC high byte first (R175). -/
def hostFrame (kind seq : Byte) (payload : List Byte) : List Byte :=
  let c := frameCrc kind seq payload
  Config.sync :: covered kind seq payload ++ [crcHigh c, crcLow c]

/-- A reply's payload with its overrun flag (Table 11-3). -/
def Reply.payload (r : Reply) (overrun : Bool) : List Byte :=
  match r with
  | .ok data => 0x00 :: boolByte overrun :: data
  | .accepted ticket => 0x01 :: boolByte overrun :: halfBytes ticket
  | .refused why => [0x02, boolByte overrun, why.code]
  | .badRequest => [0x03, boolByte overrun]

/-! ### Records (Tables 11-6, 11-7, 11-2) -/

/-- The identity record as sent (Table 11-6). -/
def Identity.bytes (d : Identity) : List Byte :=
  halfBytes d.vendor ++ [d.cls, d.revision] ++ wordBytes d.serial
    ++ [byte d.units, d.ready.code, byte d.name.length] ++ d.name

/-- The identity a response body holds, if it is valid: the five conditions of R49 over the layout of Table 11-6 (R178).
Bytes beyond the name are ignored. -/
def identityOf (body : List Byte) : Option Identity :=
  match body with
  | v0 :: v1 :: cls :: rev :: s0 :: s1 :: s2 :: s3 :: units :: ready :: nameLength :: rest =>
    match ReadyMethod.ofCode ready with
    | none => none
    | some r =>
      if 1 ≤ units.toNat ∧ units.toNat ≤ 63 ∧ nameLength.toNat ≤ 16 ∧ nameLength.toNat ≤ rest.length then
        some { vendor := half v0 v1, cls := cls, revision := rev, serial := word s0 s1 s2 s3, units := units.toNat,
               ready := r, name := rest.take nameLength.toNat }
      else none
  | _ => none

/-- The status record as sent (Table 11-7). Bits 1 to 7 of the flags are sent as 0, the model's choice (log 30): the spec says
only that they are ignored on reception (R178). -/
def StatusRecord.bytes (r : StatusRecord) : List Byte :=
  [r.condition.code, boolByte r.standDown] ++ halfBytes r.faultCode ++ [byte r.text.length] ++ r.text

/-- The status record a response body holds, unless it is malformed (R178). Bits 1 to 7 of the flags and bytes beyond
the text are ignored. -/
def statusOf (body : List Byte) : Option StatusRecord :=
  match body with
  | condition :: flags :: f0 :: f1 :: textLength :: rest =>
    match Condition.ofCode condition with
    | none => none
    | some c =>
      if textLength.toNat ≤ 24 ∧ textLength.toNat ≤ rest.length then
        some { condition := c, standDown := flags.getLsbD 0, faultCode := half f0 f1,
               text := rest.take textLength.toNat }
      else none
  | _ => none

/-- An admission entry as sent (Table 11-2, note 1). -/
def AdmissionEntry.bytes (e : AdmissionEntry) : List Byte :=
  [boolByte e.valid, e.vendorMatch.code] ++ halfBytes e.vendor ++ [e.classMatch.code, e.cls, e.minRevision, e.action.code]

/-- The eight bytes of an entry in a request, as received. -/
def entryBytes (e : EntryBytes) : List Byte :=
  [e.valid, e.vendorMatch] ++ halfBytes e.vendor ++ [e.classMatch, e.cls, e.minRevision, e.action]

/-- The entry a request carries, unless one of its code-valued fields names nothing (R58, R177). -/
def admissionOf (e : EntryBytes) : Option AdmissionEntry :=
  match boolOfCode e.valid, MatchKind.ofCode e.vendorMatch, MatchKind.ofCode e.classMatch, AdmitAction.ofCode e.action with
  | some valid, some vendorMatch, some classMatch, some action =>
    some { valid := valid, vendorMatch := vendorMatch, vendor := e.vendor, classMatch := classMatch, cls := e.cls,
           minRevision := e.minRevision, action := action }
  | _, _, _, _ => none

/-- A beacon record in the reply to BEACON_READ (Table 11-2). -/
def BeaconRecord.bytes (b : BeaconRecord) : List Byte :=
  [b.state.code, b.interval, b.phase, byte b.payload.length] ++ b.payload

/-! ### Notification payloads (Table 11-4) -/

def RelayOutcome.code : RelayOutcome → Byte
  | .done _ _ => 0 | .unsupported => 1 | .failed _ => 2 | .failedBusy => 2 | .cancelled => 3

/-- The failure kind field: 0 unless the outcome is FAILED; BUSY is 8 (Table 11-9). -/
def RelayOutcome.failureCode : RelayOutcome → Byte
  | .failed k => k.code | .failedBusy => 8 | .done _ _ => 0 | .unsupported => 0 | .cancelled => 0

/-- Truncated, response length and response bytes: 0 and none unless the outcome is DONE. -/
def RelayOutcome.responseBytes : RelayOutcome → List Byte
  | .done truncated response => boolByte truncated :: byte response.length :: response
  | .unsupported => [0, 0] | .failed _ => [0, 0] | .failedBusy => [0, 0] | .cancelled => [0, 0]

/-- KIND of a notification frame. -/
def Note.kind : Note → Byte
  | .slotChange _ _ _ _ _ => 0x40 | .attention _ => 0x41 | .statusReport _ _ => 0x42 | .relayResult _ _ _ _ _ => 0x43
  | .loss _ => 0x44 | .restarted _ => 0x45

/-- The entry payload. -/
def Note.bytes : Note → List Byte
  | .slotChange i previous new reason none => [slotByte i, previous.code, new.code, reason.code, 0]
  | .slotChange i previous new reason (some m) =>
    [slotByte i, previous.code, new.code, reason.code, 1] ++ halfBytes m.vendor ++ [m.cls, m.revision, byte m.units]
  | .attention i => [slotByte i]
  | .statusReport i r => slotByte i :: r.bytes
  | .relayResult ticket i outcome attempts busy =>
    halfBytes ticket ++ [slotByte i, outcome.code, outcome.failureCode, byte attempts, byte busy] ++ outcome.responseBytes
  | .loss count => halfBytes count
  | .restarted k => [k.code]

/-- The frame of a Notification Queue entry: KIND, the low 8 bits of the sequence number in SEQ, then the full number and
the entry payload (R160, R176). -/
def NoteEntry.frame (e : NoteEntry) : List Byte :=
  hostFrame e.note.kind (e.seq.setWidth 8) (halfBytes e.seq ++ e.note.bytes)

/-! ### Sideband frames (Table 11-5) -/

/-- A frame with its check byte. -/
def busFrame (address operation : Byte) (payload : List Byte) : List Byte :=
  let body := address :: operation :: byte payload.length :: payload
  body ++ [crc8 body]

/-- The payload of a request: a relay's own, none for the internal kinds (Table 6-2). -/
def Work.payload : Work → List Byte
  | .identify => [] | .status => [] | .standDown => [] | .relay _ p => p

/-- The request frame of a transaction (R101, R178). -/
def Transaction.frame (x : Transaction) : List Byte := busFrame (slotByte x.slot) x.work.code x.work.payload

/-- A beacon frame: broadcast address, operation BEACON, cycle number, record payload (R118, R178). -/
def beaconFrame (number : Half) (payload : List Byte) : List Byte := busFrame 0 opBeacon (halfBytes number ++ payload)

/-- The address a good response carries: the slot number with the response flag set, bits 5 and 6 at 0 (R178). -/
def responseAddress (i : Slot) : Byte := slotByte i ||| 0x80

/-! ### Sideband characters (R99, R107) -/

/-- A byte holds an odd number of ones. -/
def parityOdd (b : Byte) : Bool := (List.range 8).foldl (fun p k => p ^^ b.getLsbD k) false

/-- The eleven bits of a character: start bit low, data least significant bit first, odd parity, stop bit high (R99). -/
def busCharacter (b : Byte) : BusBits := BitVec.ofBool true ++ BitVec.ofBool (!parityOdd b) ++ b ++ BitVec.ofBool false

/-- A complete character on SBDAT as the character receiver classifies it (R107). -/
inductive BusChar where
  | framingError
  | parityError
  | good (b : Byte)
  deriving DecidableEq, Repr

/-- The classification of the bits received, the stop bit first (R107). With the start bit high there is no character. -/
def busChar (bits : BusBits) : Option BusChar :=
  let b := bits.extractLsb' 1 8
  if bits.getLsbD 0 then none
  else if !bits.getLsbD 10 then some .framingError
  else if parityOdd b ^^ bits.getLsbD 9 then some (.good b)
  else some .parityError

/-! ### Host link characters (R149) -/

/-- The ten bits of a character: start bit low, data least significant bit first, stop bit high, no parity bit (R149). -/
def hostCharacter (b : Byte) : HostBits := BitVec.ofBool true ++ b ++ BitVec.ofBool false

/-! ### Durations, in us (Tables 6-1, 9-1) -/

/-- A sideband bit. -/
def SbRate.bitTime : SbRate → Nat
  | .r125 => 8 | .r250 => 4 | .r500 => 2 | .r1000 => 1

/-- A sideband character: eleven bit times. -/
def SbRate.charTime (r : SbRate) : Nat := 11 * r.bitTime

def HostRate.baud : HostRate → Nat
  | .b115200 => 115200 | .b230400 => 230400 | .b460800 => 460800 | .b921600 => 921600

/-- The time of `n` host link characters of ten bits, in whole us (log 15). -/
def HostRate.time (r : HostRate) (n : Nat) : Nat := n * 10 * 1000000 / r.baud

/-- The least time of `n` characters on HRXD, in whole us: from a falling edge to the middle of the stop bit, nine and a half
bit times each (R150). -/
def HostRate.receiveTime (r : HostRate) (n : Nat) : Nat := n * 9500000 / r.baud

/-- The rate the straps select (Table 9-1). -/
def HostRate.ofStraps (rate1 rate0 : Bool) : HostRate :=
  match rate1, rate0 with
  | false, false => .b115200 | false, true => .b230400 | true, false => .b460800 | true, true => .b921600

end Sys2Proof.Machine
end

