-- ==== Sys2Proof/Machine/Flags.lean ====
section
/-! DEFINITION. Chapter 10: the counters and the parameters. (The block has no arithmetic flags; its counts and settings
take their place.) -/

namespace Sys2Proof.Machine

/-! ### Counters (R171) -/

/-- The part-wide counters in the order of Table 10-4. -/
inductive PartCounter where
  | hlFramingErrors | hlLengthAborts | hlGapAborts | hlCrcErrors | hlOverruns | hlCacheHits | notesLost | notesResent
  | sbAttempts | sbBusy | sbNoResponse | sbParity | sbFraming | sbCheck | sbMismatch | sbShort | sbOverlength
  | beaconsSent | beaconsLate | beaconsSkipped
  deriving DecidableEq, Repr

def PartCounter.index : PartCounter → Fin 20
  | .hlFramingErrors => 0 | .hlLengthAborts => 1 | .hlGapAborts => 2 | .hlCrcErrors => 3 | .hlOverruns => 4
  | .hlCacheHits => 5 | .notesLost => 6 | .notesResent => 7 | .sbAttempts => 8 | .sbBusy => 9 | .sbNoResponse => 10
  | .sbParity => 11 | .sbFraming => 12 | .sbCheck => 13 | .sbMismatch => 14 | .sbShort => 15 | .sbOverlength => 16
  | .beaconsSent => 17 | .beaconsLate => 18 | .beaconsSkipped => 19

/-- The counters of a slot group in the order of Table 10-5. -/
inductive SlotCounter where
  | arrivals | departures | attentions | glitches | bounces | sidebandFailures | faults
  deriving DecidableEq, Repr

def SlotCounter.index : SlotCounter → Fin 7
  | .arrivals => 0 | .departures => 1 | .attentions => 2 | .glitches => 3 | .bounces => 4 | .sidebandFailures => 5
  | .faults => 6

/-- The value of a part-wide counter. -/
def State.partCount (s : State) (c : PartCounter) : Word := s.partCounters[c.index]

/-- The value of a counter of slot `i`. -/
def State.slotCount (s : State) (i : Slot) (c : SlotCounter) : Half := s.slotCounters[i][c.index]

/-- One increment of a part-wide counter (R171). -/
def State.countPart (s : State) (c : PartCounter) : State :=
  { s with partCounters := s.partCounters.set c.index (satInc s.partCounters[c.index]) }

/-- `n` increments of a part-wide counter. -/
def State.countPartBy (s : State) (c : PartCounter) : Nat → State
  | 0 => s
  | n + 1 => (s.countPart c).countPartBy c n

/-- One increment of a counter of slot `i` (R171). -/
def State.countSlot (s : State) (i : Slot) (c : SlotCounter) : State :=
  { s with slotCounters := s.slotCounters.set i (s.slotCounters[i].set c.index (satInc s.slotCounters[i][c.index])) }

/-- The counters of group 0 as a reply carries them: 20 counters of 4 bytes, in order (R173, Table 11-2). -/
def State.partGroup (s : State) : List Byte := s.partCounters.toList.flatMap wordBytes

/-- The counters of a slot group as a reply carries them: 7 counters of 2 bytes, in order. -/
def State.slotGroup (s : State) (i : Slot) : List Byte := s.slotCounters[i].toList.flatMap halfBytes

/-- The part-wide counter of an attempt's outcome (R115): none for DONE and UNSUPPORTED. -/
def AttemptOutcome.counter : AttemptOutcome → Option PartCounter
  | .done _ => none
  | .unsupported => none
  | .busy => some .sbBusy
  | .failed .noResponse => some .sbNoResponse
  | .failed .parity => some .sbParity
  | .failed .framing => some .sbFraming
  | .failed .check => some .sbCheck
  | .failed .mismatch => some .sbMismatch
  | .failed .short => some .sbShort
  | .failed .overlength => some .sbOverlength

/-! ### Parameters (Table 10-1) -/

inductive ParamId where
  | lineGlitch | lineAttnLimit | lineSettle | budgetLimit | staggerLimit | powerupTimeout | pollInterval | healthInterval
  | drainDelay | faultLimit | retryLimit | sbRate | sbResponseTimeout | cyclePeriod | quietGuard | noteWindow | noteResend
  deriving DecidableEq, Repr

/-- Table 11-10. -/
def ParamId.code : ParamId → Byte
  | .lineGlitch => 1 | .lineAttnLimit => 2 | .lineSettle => 3 | .budgetLimit => 4 | .staggerLimit => 5
  | .powerupTimeout => 6 | .pollInterval => 7 | .healthInterval => 8 | .drainDelay => 9 | .faultLimit => 10
  | .retryLimit => 11 | .sbRate => 12 | .sbResponseTimeout => 13 | .cyclePeriod => 14 | .quietGuard => 15
  | .noteWindow => 16 | .noteResend => 17

/-- The 17 parameters in the order of their identifiers. -/
def ParamId.all : List ParamId :=
  [.lineGlitch, .lineAttnLimit, .lineSettle, .budgetLimit, .staggerLimit, .powerupTimeout, .pollInterval,
   .healthInterval, .drainDelay, .faultLimit, .retryLimit, .sbRate, .sbResponseTimeout, .cyclePeriod, .quietGuard,
   .noteWindow, .noteResend]

/-- The parameter an identifier byte names. -/
def ParamId.ofCode (b : Byte) : Option ParamId := ParamId.all.find? fun p => p.code = b

/-- The value in force, in the parameter's unit; SB_RATE as its code. -/
def Params.get (p : Params) : ParamId → Nat
  | .lineGlitch => p.lineGlitch | .lineAttnLimit => p.lineAttnLimit | .lineSettle => p.lineSettle
  | .budgetLimit => p.budgetLimit | .staggerLimit => p.staggerLimit | .powerupTimeout => p.powerupTimeout
  | .pollInterval => p.pollInterval | .healthInterval => p.healthInterval | .drainDelay => p.drainDelay
  | .faultLimit => p.faultLimit | .retryLimit => p.retryLimit | .sbRate => p.sbRate.code
  | .sbResponseTimeout => p.sbResponseTimeout | .cyclePeriod => p.cyclePeriod | .quietGuard => p.quietGuard
  | .noteWindow => p.noteWindow | .noteResend => p.noteResend

/-- The values with one replaced. -/
def Params.set (p : Params) (id : ParamId) (v : Nat) : Params :=
  match id with
  | .lineGlitch => { p with lineGlitch := v }
  | .lineAttnLimit => { p with lineAttnLimit := v }
  | .lineSettle => { p with lineSettle := v }
  | .budgetLimit => { p with budgetLimit := v }
  | .staggerLimit => { p with staggerLimit := v }
  | .powerupTimeout => { p with powerupTimeout := v }
  | .pollInterval => { p with pollInterval := v }
  | .healthInterval => { p with healthInterval := v }
  | .drainDelay => { p with drainDelay := v }
  | .faultLimit => { p with faultLimit := v }
  | .retryLimit => { p with retryLimit := v }
  | .sbRate => { p with sbRate := (SbRate.ofCode v).getD p.sbRate }
  | .sbResponseTimeout => { p with sbResponseTimeout := v }
  | .cyclePeriod => { p with cyclePeriod := v }
  | .quietGuard => { p with quietGuard := v }
  | .noteWindow => { p with noteWindow := v }
  | .noteResend => { p with noteResend := v }

/-- The range in units (Table 10-1). -/
def ParamId.inRange (id : ParamId) (v : Nat) : Bool :=
  match id with
  | .lineGlitch => decide (2 ≤ v ∧ v ≤ 250)
  | .lineAttnLimit => decide (2 ≤ v ∧ v ≤ 200)
  | .lineSettle => decide (5 ≤ v ∧ v ≤ 500)
  | .budgetLimit => decide (v ≤ 1023)
  | .staggerLimit => decide (1 ≤ v ∧ v ≤ 4)
  | .powerupTimeout => decide (20 ≤ v ∧ v ≤ 10000)
  | .pollInterval => decide (5 ≤ v ∧ v ≤ 1000)
  | .healthInterval => decide (v = 0 ∨ 10 ≤ v ∧ v ≤ 60000)
  | .drainDelay => decide (v ≤ 2000)
  | .faultLimit => decide (1 ≤ v ∧ v ≤ 15)
  | .retryLimit => decide (v ≤ 7)
  | .sbRate => decide (v ≤ 3)
  | .sbResponseTimeout => decide (1 ≤ v ∧ v ≤ 100)
  | .cyclePeriod => decide (4 ≤ v ∧ v ≤ 200)
  | .quietGuard => decide (5 ≤ v ∧ v ≤ 500)
  | .noteWindow => decide (1 ≤ v ∧ v ≤ 8)
  | .noteResend => decide (10 ≤ v ∧ v ≤ 2000)

/-- LINE_ATTN_LIMIT in us: steps of 100 us. -/
def attnTime (units : Nat) : Nat := units * 100

/-- LINE_SETTLE and the slot timers in us: steps of 1 ms. -/
def milliTime (units : Nat) : Nat := units * 1000

/-- CYCLE_PERIOD in us: steps of 0.5 ms. -/
def periodTime (units : Nat) : Nat := units * 500

/-- SB_RESPONSE_TIMEOUT and QUIET_GUARD in us: steps of 0.1 ms. -/
def tenthTime (units : Nat) : Nat := units * 100

/-- The value is inconsistent with another value in force, as durations (R169). -/
def Params.conflicts (p : Params) (id : ParamId) (v : Nat) : Bool :=
  match id with
  | .lineAttnLimit => decide (attnTime v ≤ p.lineGlitch)
  | .lineGlitch => decide (attnTime p.lineAttnLimit ≤ v)
  | .quietGuard => decide (periodTime p.cyclePeriod < 2 * tenthTime v)
  | .cyclePeriod => decide (periodTime v < 2 * tenthTime p.quietGuard)
  | .lineSettle => false | .budgetLimit => false | .staggerLimit => false | .powerupTimeout => false
  | .pollInterval => false | .healthInterval => false | .drainDelay => false | .faultLimit => false
  | .retryLimit => false | .sbRate => false | .sbResponseTimeout => false | .noteWindow => false | .noteResend => false

end Sys2Proof.Machine
end

