-- ==== Sys2Proof/Machine/Ops.lean ====
section
/-! DEFINITION. Shared operations: timers, the accessors of the records, and the notification list (chapter 8). -/

namespace Sys2Proof.Machine

/-! ### Timers (R5, 00 section 0.7) -/

/-- The timer's duration has elapsed at `t`, within the accuracy of every duration (log 3). -/
def Timer.due (m : Timer) (t : Nat) : Bool := decide (m.start + m.dur ≤ t + Config.tolerance m.dur)

/-- A timer, running or stopped, expires at `t`: a stopped one does not (R5). -/
def dueAt (m : Option Timer) (t : Nat) : Bool :=
  match m with
  | some m => m.due t
  | none => false

/-- An edge comes before the timer has surely expired; a stopped one never does (R106, R110, R153). -/
def beforeDue (m : Option Timer) (edge : Nat) : Bool :=
  match m with
  | some m => decide (edge ≤ m.start + m.dur + Config.tolerance m.dur)
  | none => true

/-- `elapsed` us lie within the accuracy of a duration of `nominal` us. -/
def within (nominal elapsed : Nat) : Bool :=
  decide (nominal ≤ elapsed + Config.tolerance nominal) && decide (elapsed ≤ nominal + Config.tolerance nominal)

/-- A falling edge begins a character (R107, R150). -/
def EdgeWait.startsAt (w : EdgeWait) (edge : Nat) : Bool :=
  if w.heldLow then decide (w.free < edge) else decide (w.free ≤ edge)

/-- The wait at `t`, no falling edge having come before: one at `t` itself begins a character, since the line may have been
high in between, unless a low stop bit was received at `t` (R107, R150). -/
def EdgeWait.waitsFrom (w : EdgeWait) (t : Nat) : EdgeWait := { free := t, heldLow := w.heldLow && decide (t ≤ w.free) }

/-- A timer started now. -/
def State.timer (s : State) (dur : Nat) : Timer := { start := s.now, dur := dur }

/-- The character receiver when SBDIR rises or falls: with SBDIR high it does not listen (R98), and from the fall on it waits
for a falling edge (log 32). -/
def State.released (s : State) : CharReceiver := .waiting { free := s.now, heldLow := false }

/-! ### Records -/

def State.slot (s : State) (i : Slot) : SlotRecord := s.slots[i]

/-- Change the record of slot `i`. -/
def State.updSlot (s : State) (i : Slot) (f : SlotRecord → SlotRecord) : State :=
  { s with slots := s.slots.set i (f s.slots[i]) }

def State.classifier (s : State) (i : Slot) : Classifier := s.classifiers[i]

/-- Put classifier `i` in a state. -/
def State.setClassifier (s : State) (i : Slot) (c : Classifier) : State :=
  { s with classifiers := s.classifiers.set i c }

/-- The sample of this tick is the first to read `level` on presence line `i` (R32). -/
def State.setLine (s : State) (i : Slot) (level : Bool) : State :=
  { s with spres := s.spres.set i level, edges := s.edges.set i s.now }

/-- Presence line `i` can show an edge at `t`: a sample after the one that first read its present level (R32; log 31). -/
def State.mayEdge (s : State) (i : Slot) (t : Nat) : Bool := decide (s.edges[i] < t)

def State.beacon (s : State) (k : Fin 8) : BeaconRecord := s.beacons[k]

def State.setBeacon (s : State) (k : Fin 8) (b : BeaconRecord) : State := { s with beacons := s.beacons.set k b }

def State.entry (s : State) (k : Fin 16) : AdmissionEntry := s.admission[k]

def State.setEntry (s : State) (k : Fin 16) (e : AdmissionEntry) : State := { s with admission := s.admission.set k e }

/-- The slots 1 to 24 in ascending order. -/
def allSlots : List Slot := List.finRange 24

/-! ### The notification list (R136 to R140) -/

/-- Store a notification at the tail with the next sequence number, unsent (R137, R138). -/
def State.store (s : State) (n : Note) : State :=
  { s with notes := s.notes ++ [{ seq := s.nextSeq, note := n, sent := false }], nextSeq := s.nextSeq + 1 }

/-- An unsent LOSS marker at the tail takes a lost notification's count; otherwise a new marker takes the 64th place (R139,
R140). -/
def State.markLoss (s : State) : State :=
  match s.notes.getLast? with
  | some { seq := q, note := .loss c, sent := false } =>
    { s with notes := s.notes.dropLast ++ [{ seq := q, note := .loss (satInc c), sent := false }] }
  | _ => if s.notes.length = Config.noteRoom + 1 then s.store (.loss 1) else s

/-- A notification raised while the list holds 63 or 64 entries (R139). -/
def State.lose (s : State) : State := (s.countPart .notesLost).markLoss

/-- A block raises a notification (R138, Table 8-3). -/
def State.raise (s : State) (n : Note) : State :=
  if s.notes.length ≤ Config.noteRoom then s.store n else s.lose

/-- Notifications raised in order. -/
def State.raiseAll (s : State) : List Note → State
  | [] => s
  | n :: rest => (s.raise n).raiseAll rest

/-- The number of sent entries (R136). -/
def State.outstanding (s : State) : Nat := s.notes.countP fun e => e.sent

/-- The entry NQ offers the transmitter: the oldest unsent one, while the outstanding count is below NOTE_WINDOW (R141). -/
def State.offered (s : State) : Option NoteEntry :=
  if s.outstanding < s.params.noteWindow then s.notes.find? fun e => !e.sent else none

/-- Mark the oldest unsent entry sent. -/
def markSent : List NoteEntry → List NoteEntry
  | [] => []
  | e :: rest => if e.sent then e :: markSent rest else { e with sent := true } :: rest

/-- The resend timer's duration, NOTE_RESEND in force (R145). -/
def State.resendStart (s : State) : Timer := s.timer (milliTime s.params.noteResend)

end Sys2Proof.Machine
end

