-- ==== Sys2Proof/Machine/Transactions.lean ====
section
/-! DEFINITION. Chapter 5: the Transaction Queue's list, its quotas, entries and removals. -/

namespace Sys2Proof.Machine

/-- Origin INTERNAL (Table 5-1). -/
def Work.internal : Work → Bool
  | .identify => true | .status => true | .standDown => true | .relay _ _ => false

/-- A fresh entry (Table 5-1, note 1). -/
def Transaction.fresh (i : Slot) (w : Work) : Transaction := { slot := i, work := w, attempts := 0, busy := 0 }

/-- The entry is the queued internal entry of slot `i`. -/
def Transaction.internalOf (x : Transaction) (i : Slot) : Bool := x.slot = i && x.work.internal

/-- Append at the tail (R79). -/
def State.enqueue (s : State) (x : Transaction) : State := { s with transactions := s.transactions ++ [x] }

/-- SC enters an internal transaction (R81): appended, coalesced, or standing for an entry of another kind. -/
def State.enterInternal (s : State) (i : Slot) (w : Work) : State :=
  match s.transactions.find? fun x => x.internalOf i with
  | none => s.enqueue (.fresh i w)
  | some x =>
    if x.work = w then s
    else { s with transactions := s.transactions.filter (fun x => !x.internalOf i) ++ [.fresh i w] }

/-- Relays outstanding: queued, or in flight and not marked discard (R82). -/
def State.relaysOutstanding (s : State) : Nat :=
  s.transactions.countP (fun x => !x.work.internal)
    + match s.inFlight with
      | some f => if !f.tx.work.internal && !f.discard then 1 else 0
      | none => 0

/-- The discard mark set if the transaction in flight meets a condition (R83, R117). -/
def State.markDiscard (s : State) (p : Transaction → Bool) : State :=
  match s.inFlight with
  | some f => if p f.tx then { s with inFlight := some { f with discard := true } } else s
  | none => s

/-- The relays of slot `i` that a departure or CLEAR cancels: the one in flight first, unless already marked, then the
queued ones in list order (R96). -/
def State.cancelled (s : State) (i : Slot) : List Transaction :=
  let queued := s.transactions.filter fun x => x.slot = i && !x.work.internal
  match s.inFlight with
  | some f => if f.tx.slot = i && !f.tx.work.internal && !f.discard then f.tx :: queued else queued
  | none => queued

/-- RELAY_RESULT(CANCELLED) of each relay cancelled (R95, R96). -/
def cancelNotes : List Transaction → List Note
  | [] => []
  | x :: rest =>
    match x.work with
    | .relay ticket _ => .relayResult ticket x.slot .cancelled x.attempts x.busy :: cancelNotes rest
    | .identify => cancelNotes rest
    | .status => cancelNotes rest
    | .standDown => cancelNotes rest

/-- Remove every entry of slot `i` and mark its transaction in flight (R83). -/
def State.removeEntries (s : State) (i : Slot) : State :=
  { s.markDiscard (fun x => x.slot = i) with transactions := s.transactions.filter fun x => x.slot ≠ i }

/-- Remove the queued STATUS of slot `i` and mark its STATUS in flight (R83). -/
def State.removeStatus (s : State) (i : Slot) : State :=
  { s.markDiscard (fun x => x.slot = i && x.work = .status) with
    transactions := s.transactions.filter fun x => !(x.slot = i && x.work = .status) }

/-- A retry at the tail, or dropped if a queued internal entry of the slot stands for it (R90). -/
def State.retry (s : State) (x : Transaction) : State :=
  if x.work.internal && s.transactions.any (fun y => y.internalOf x.slot) then s else s.enqueue x

/-- The ticket after this one: 65535 is followed by 1 (R94). -/
def nextTicketAfter (t : Half) : Half := if t = 0xFFFF then 1 else t + 1

/-- The internal work of slot `i` that a warm restart enters again (R97): that of the queued internal entry, otherwise
that of an unmarked internal transaction in flight. -/
def State.refillWork (s : State) (i : Slot) : Option Work :=
  match s.transactions.find? fun x => x.internalOf i with
  | some x => some x.work
  | none =>
    match s.inFlight with
    | some f => if f.tx.internalOf i && !f.discard then some f.tx.work else none
    | none => none

/-- The list after a warm restart: one fresh entry a slot, in ascending order (R97). -/
def State.refill (s : State) : List Transaction :=
  allSlots.filterMap fun i => (s.refillWork i).map (Transaction.fresh i)

end Sys2Proof.Machine
end

