-- ==== Sys2Proof/Machine/Slots.lean ====
section
/-! DEFINITION. Chapters 1, 3 and 4: the Slot Controller's transitions, the admission table's evaluation, and the Enable
Sequencer. -/

namespace Sys2Proof.Machine

/-! ### Power (R61, R69, R70) -/

/-- The load units of the slot's stored identity (R61); 0 where there is none (log 17). -/
def SlotRecord.units (r : SlotRecord) : Nat :=
  match r.identity with
  | some d => d.units
  | none => 0

/-- SC's report that a slot leaves ENABLING, if that is its state (R70). -/
def State.leaveEnabling (s : State) (i : Slot) : State :=
  if (s.slot i).state = .enabling then { s with enablingCount := s.enablingCount - 1 } else s

/-- SC's report of an enable deassertion with the slot's load units, if the output is asserted (R69). -/
def State.credit (s : State) (i : Slot) : State :=
  if (s.slot i).enable then { s with committed := s.committed - (s.slot i).units } else s

/-- The enable output deasserted, with both reports (R4, R69, R70; log 18). -/
def State.powerOff (s : State) (i : Slot) : State :=
  ((s.leaveEnabling i).credit i).updSlot i fun r => { r with enable := false }

/-- Out of the admission queue, wherever the slot stands (R71). -/
def State.leaveQueue (s : State) (i : Slot) : State :=
  { s with admissionQueue := s.admissionQueue.filter fun j => j ≠ i }

/-! ### Transitions (R3) -/

def Identity.summary (d : Identity) : Summary :=
  { vendor := d.vendor, cls := d.cls, revision := d.revision, units := d.units }

/-- A change of a slot's state: reason recorded, SLOT_CHANGE raised, with the identity summary when the transition leaves
IDENTIFYING and the slot holds an identity (R3). -/
def State.changeState (s : State) (i : Slot) (new : SlotState) (why : Reason) : State :=
  let r := s.slot i
  let summary := if r.state = .identifying then r.identity.map Identity.summary else none
  (s.updSlot i fun r => { r with state := new, reason := why }).raise (.slotChange i r.state new why summary)

/-- All four timers stopped. -/
def SlotRecord.stopTimers (r : SlotRecord) : SlotRecord :=
  { r with powerup := none, poll := none, health := none, drain := none }

/-- The fields an entry into IDENTIFYING or VACANT clears (R8, R9). -/
def SlotRecord.cleared (r : SlotRecord) : SlotRecord :=
  { r.stopTimers with identity := none, admittedBy := none, lastStatus := none, attentionLatched := false,
                      reportOwed := false, standDownConfirmed := false, failures := 0 }

/-- Entry into IDENTIFYING with its entry actions (R8). -/
def State.enterIdentifying (s : State) (i : Slot) (why : Reason) : State :=
  ((s.updSlot i SlotRecord.cleared).enterInternal i .identify).changeState i .identifying why

/-- Entry into FAULTED (R26). -/
def State.enterFaulted (s : State) (i : Slot) (why : Reason) : State :=
  (((s.powerOff i).updSlot i fun r => { r.stopTimers with admittedBy := none, reportOwed := false }).countSlot i .faults
    ).changeState i .faulted why

/-- Entry into PARKED (R26). -/
def State.enterParked (s : State) (i : Slot) (why : Reason) : State :=
  ((s.powerOff i).updSlot i fun r => { r.stopTimers with admittedBy := none }).changeState i .parked why

/-- Entry into PENDING (R12, R15). -/
def State.enterPending (s : State) (i : Slot) (why : Reason) : State :=
  (s.updSlot i fun r => { r with admittedBy := none }).changeState i .pending why

/-- A slot joins the tail of the admission queue and moves to QUEUED (R64). -/
def State.join (s : State) (i : Slot) (by' : AdmittedBy) (why : Reason) : State :=
  ({ s with admissionQueue := s.admissionQueue ++ [i] }.updSlot i fun r => { r with admittedBy := some by' }
    ).changeState i .queued why

/-- An attention latched while the slot waited is answered with a STATUS whose report is owed (R20, step 1). -/
def State.answerLatch (s : State) (i : Slot) : State :=
  if (s.slot i).attentionLatched then
    (s.updSlot i fun r => { r with attentionLatched := false, reportOwed := true }).enterInternal i .status
  else s

/-- The health timer as it starts or restarts: only with a non-zero HEALTH_INTERVAL (R5, R6). -/
def State.healthStart (s : State) : Option Timer :=
  if s.params.healthInterval = 0 then none else some (s.timer (milliTime s.params.healthInterval))

/-- ENABLING to ACTIVE with the ACTIVE entry actions (R16, R17, R20). -/
def State.enterActive (s : State) (i : Slot) : State :=
  let s := (s.leaveEnabling i).updSlot i fun r => { r with powerup := none, poll := none }
  let s := s.answerLatch i
  (s.updSlot i fun r => { r with health := s.healthStart }).changeState i .active .ready

/-- Entry into RELEASING: the stand-down begins (R22). -/
def State.enterReleasing (s : State) (i : Slot) (why : Reason) : State :=
  (((s.updSlot i fun r => { r with health := none, reportOwed := false, standDownConfirmed := false }).removeStatus i
    ).enterInternal i .standDown).changeState i .releasing why

/-! ### Line events (R7 to R10) -/

/-- The first evaluation with the level found (R7). -/
def State.firstEvaluation (s : State) (i : Slot) (level : Bool) : State :=
  if level then (s.countSlot i .arrivals).enterIdentifying i .firstSeen else s.changeState i .vacant .firstSeen

/-- ARRIVAL (R8). -/
def State.arrival (s : State) (i : Slot) : State := (s.countSlot i .arrivals).enterIdentifying i .lineArrival

/-- DEPARTURE (R9). -/
def State.departure (s : State) (i : Slot) : State :=
  let relays := cancelNotes (s.cancelled i)
  let s := (s.powerOff i).removeEntries i
  let s := if (s.slot i).state = .queued then s.leaveQueue i else s
  (((s.updSlot i SlotRecord.cleared).countSlot i .departures).changeState i .vacant .lineDeparture).raiseAll relays

/-- A STATUS entered whose report is owed (R10, ACTIVE). -/
def State.oweReport (s : State) (i : Slot) : State :=
  (s.enterInternal i .status).updSlot i fun r => { r with reportOwed := true }

/-- ATTENTION: counted in every state, then Table 1-5 (R10). -/
def State.attention (s : State) (i : Slot) : State :=
  let s := s.countSlot i .attentions
  let latched := s.updSlot i fun r => { r with attentionLatched := true }
  match (s.slot i).state with
  | .pending => latched.raise (.attention i)
  | .queued => latched.raise (.attention i)
  | .parked => latched.raise (.attention i)
  | .faulted => latched.raise (.attention i)
  | .enabling =>
    match (s.slot i).identity.map Identity.ready with
    | some .pulse => s.enterActive i
    | some .poll => latched
    | none => s
  | .active => s.oweReport i
  | .unknown => s
  | .vacant => s
  | .identifying => s
  | .releasing => s

/-! ### The admission table (R53 to R56) -/

/-- One entry matches one identity (R53). -/
def AdmissionEntry.matchesIdentity (e : AdmissionEntry) (d : Identity) : Bool :=
  e.valid && (e.vendorMatch = .any || e.vendor = d.vendor) && (e.classMatch = .any || e.cls = d.cls)
    && decide (e.minRevision.toNat ≤ d.revision.toNat)

/-- The action of the first entry that matches, HOLD if none does (R55). -/
def evaluate (table : List AdmissionEntry) (d : Identity) : AdmitAction :=
  match table with
  | [] => .hold
  | e :: rest => if e.matchesIdentity d then e.action else evaluate rest d

/-- The consequence of the evaluation for a slot whose identity has just been stored (R12, R56). -/
def State.admitByTable (s : State) (i : Slot) (d : Identity) : State :=
  match evaluate s.admission.toList d with
  | .admitModule => if d.units ≤ s.params.budgetLimit then s.join i .table .identifiedAdmit else s.enterPending i .exceedsLimit
  | .hold => s.enterPending i .identifiedHold
  | .refuse => s.enterParked i .identifiedRefuse

/-- An IDENTIFY completes with DONE (R12, R13, R50). -/
def State.identifyDone (s : State) (i : Slot) (body : List Byte) : State :=
  match identityOf body with
  | some d => (s.updSlot i fun r => { r with identity := some d }).admitByTable i d
  | none => s.enterFaulted i .identityInvalid

/-! ### The Enable Sequencer's grants (R65, R66) -/

/-- The head may be granted: the budget has room and the stagger limit is not reached (R65). -/
def State.qualifies (s : State) (i : Slot) : Bool :=
  decide (s.committed + (s.slot i).units ≤ s.params.budgetLimit) && decide (s.enablingCount < s.params.staggerLimit)

/-- The record of a slot as it enters ENABLING (R14). -/
def State.granted (s : State) (r : SlotRecord) : SlotRecord :=
  { r with enable := true
           powerup := some (s.timer (milliTime s.params.powerupTimeout))
           poll := if r.identity.map Identity.ready = some .poll then some (s.timer (milliTime s.params.pollInterval))
                   else r.poll }

/-- The grant of the head `i`, with `rest` behind it (R14, R65, R68). -/
def State.grant (s : State) (i : Slot) (rest : List Slot) : State :=
  let s := { s with admissionQueue := rest, committed := s.committed + (s.slot i).units,
                    enablingCount := s.enablingCount + 1 }
  (s.updSlot i s.granted).changeState i .enabling .enableGranted

/-- Grants from the head of the list until one does not qualify (R66). -/
def State.examineFrom (s : State) : List Slot → State
  | [] => s
  | i :: rest => if s.qualifies i then (s.grant i rest).examineFrom rest else s

/-- An examination (R66). -/
def State.examine (s : State) : State := s.examineFrom s.admissionQueue

/-- What makes ES examine its queue at the end of an event (Table 4-2), read from the states before and after the event's
own actions (log 19). -/
def examinationDue (before after : State) : Bool :=
  (before.admissionQueue.isEmpty && !after.admissionQueue.isEmpty)
    || decide (after.committed < before.committed)
    || decide (after.enablingCount < before.enablingCount)
    || (!before.admissionQueue.isEmpty && before.admissionQueue.head? != after.admissionQueue.head?)
    || decide (before.params.budgetLimit < after.params.budgetLimit)
    || decide (before.params.staggerLimit < after.params.staggerLimit)

/-- A lowered budget limit: every queued slot over the limit in force is ejected to PENDING, in queue order (R73). -/
def State.ejectOver (s : State) : State :=
  let ejected := s.admissionQueue.filter fun i => decide (s.params.budgetLimit < (s.slot i).units)
  let s := { s with admissionQueue := s.admissionQueue.filter fun i => !decide (s.params.budgetLimit < (s.slot i).units) }
  ejected.foldl (fun s i => s.enterPending i .limitLowered) s

/-! ### Sideband outcomes (R16 to R27) -/

/-- consecutive_failures rises, to 15 at most, and is checked against FAULT_LIMIT (R19). -/
def State.noteFailure (s : State) (i : Slot) : State :=
  let s := s.updSlot i fun r => { r with failures := min (r.failures + 1) Config.maxFailures }
  if ((s.slot i).state = .enabling ∨ (s.slot i).state = .active) ∧ s.params.faultLimit ≤ (s.slot i).failures then
    s.enterFaulted i .sidebandFault
  else s

/-- consecutive_failures set to 0 (R19). -/
def State.clearFailures (s : State) (i : Slot) : State := s.updSlot i fun r => { r with failures := 0 }

/-- An attempt outcome as SC takes it (R19, Table 1-6). -/
def State.takeAttempt (s : State) (x : Transaction) (o : AttemptOutcome) : State :=
  match o with
  | .failed _ => s.noteFailure x.slot
  | .busy => s
  | .unsupported => s
  | .done body =>
    if x.work = .status ∧ (statusOf body).isNone then s.noteFailure x.slot else s.clearFailures x.slot

/-- last_status replaced (R1). -/
def State.setLastStatus (s : State) (i : Slot) (r : StatusRecord) : State :=
  s.updSlot i fun x => { x with lastStatus := some r }

/-- ACTIVE to RELEASING when the record's stand-down request flag is set (R17, R21). -/
def State.standDownIf (s : State) (i : Slot) (r : StatusRecord) : State :=
  if r.standDown then s.enterReleasing i .moduleRequest else s

/-- A well-formed status record for a POLL slot in ENABLING (R17). -/
def State.statusEnabling (s : State) (i : Slot) (r : StatusRecord) : State :=
  let s := s.setLastStatus i r
  match r.condition with
  | .ready => (s.enterActive i).standDownIf i r
  | .degraded => (s.enterActive i).standDownIf i r
  | .starting => s
  | .failed => s.enterFaulted i .moduleFailed

/-- A well-formed status record for a slot in ACTIVE (R21). -/
def State.statusActive (s : State) (i : Slot) (r : StatusRecord) : State :=
  let old := s.slot i
  let s := s.setLastStatus i r
  let s := if old.reportOwed ∨ old.lastStatus.map StatusRecord.condition ≠ some r.condition then
      (s.updSlot i fun x => { x with reportOwed := false }).raise (.statusReport i r)
    else s
  s.standDownIf i r

/-- A well-formed status record, by the slot's state (R16, R17, R21, R27). A STATUS does not complete in the other states
(log 17). -/
def State.statusDone (s : State) (i : Slot) (r : StatusRecord) : State :=
  match (s.slot i).state with
  | .enabling =>
    if (s.slot i).identity.map Identity.ready = some .poll then s.statusEnabling i r else s.setLastStatus i r
  | .active => s.statusActive i r
  | .parked => s.setLastStatus i r
  | .faulted => s.setLastStatus i r
  | .pending => s.setLastStatus i r
  | .queued => s.setLastStatus i r
  | .unknown => s
  | .vacant => s
  | .identifying => s
  | .releasing => s

/-- The stand-down ends: confirmed or not, the drain timer starts (R24). -/
def State.standDownEnd (s : State) (i : Slot) (confirmed : Bool) : State :=
  if (s.slot i).state = .releasing then
    s.updSlot i fun r => { r with standDownConfirmed := confirmed
                                  drain := some (s.timer (milliTime s.params.drainDelay)) }
  else s

/-- The final outcome of an internal transaction other than DONE, as SC takes it (R13, R17, R21, R24, R27). -/
def State.internalFailed (s : State) (x : Transaction) : State :=
  match x.work with
  | .identify => if (s.slot x.slot).state = .identifying then s.enterFaulted x.slot .identifyFailed else s
  | .status => s
  | .standDown => s.standDownEnd x.slot false
  | .relay _ _ => s

/-- The final outcome DONE of an internal transaction (R12, R13, R16 to R27). -/
def State.internalDone (s : State) (x : Transaction) (body : List Byte) : State :=
  match x.work with
  | .identify => if (s.slot x.slot).state = .identifying then s.identifyDone x.slot body else s
  | .status =>
    match statusOf body with
    | some r => s.statusDone x.slot r
    | none => s
  | .standDown => s.standDownEnd x.slot true
  | .relay _ _ => s

end Sys2Proof.Machine
end

