-- ==== Sys2Proof/Machine/Beacons.lean ====
section
/-! DEFINITION. Chapter 7: the cycle timer, the due list, and the beacon window. -/

namespace Sys2Proof.Machine

/-- The quiet point of a cycle (Table 7-1). -/
def Cycle.quiet (c : Cycle) : Nat := c.start + c.period - c.guardTime

/-- The instant now lies before the quiet point of the current cycle. At the very instant of the quiet point the order of
the two events decides: `quietFirst`, or an earlier event of this cycle that found it reached (R104, R128; log 6). The
instant is compared with the nominal quiet point, without the accuracy of a duration (the model's choice, log 29). -/
def State.beforeQuiet (s : State) (quietFirst : Bool) : Bool :=
  decide (s.now < s.cycle.quiet) || (decide (s.now = s.cycle.quiet) && !quietFirst && !s.cycle.quietTaken)

/-- A record is due in cycle `number` (R126). -/
def BeaconRecord.due (b : BeaconRecord) (number : Half) : Bool :=
  match b.state with
  | .idle => false
  | .periodic => decide (number.toNat % b.interval.toNat = b.phase.toNat)
  | .once => true

/-- The due list of cycle `number`, ascending (R126). -/
def State.dueList (s : State) (number : Half) : List (Fin 8) :=
  (List.finRange 8).filter fun k => (s.beacon k).due number

/-- The start of the frame of record `k`, with `rest` left on the due list (R118, R128, R130). -/
def State.startBeacon (s : State) (k : Fin 8) (rest : List (Fin 8)) : State :=
  let b := s.beacon k
  let frame := beaconFrame s.cycle.number b.payload
  let rate := s.params.sbRate
  let s := if b.state = .once then s.setBeacon k { b with state := .idle } else s
  let s := s.countPart .beaconsSent
  { s with
    cycle := { s.cycle with due := rest }
    engine := { s.engine with state := .beacon, sbdir := true, rate := rate
                              frame := frame.map busCharacter, receiver := s.released
                              wire := some (s.timer (frame.length * rate.charTime)) } }

/-- Every record left on the due list removed and counted skipped, and the window ends (R128, R129). -/
def State.skipRest (s : State) : State :=
  let s := s.countPartBy .beaconsSkipped s.cycle.due.length
  { s with cycle := { s.cycle with due := [], window := .none } }

/-- An OPEN window with the engine in IDLE: its end, the next record's frame, or the skips (R128, R129). -/
def State.serveWindow (s : State) (before : Bool) : State :=
  match s.cycle.due with
  | [] => { s with cycle := { s.cycle with window := .none } }
  | k :: rest => if before then s.startBeacon k rest else s.skipRest

/-- The window of a new cycle begins, if the due list is not empty (R127). -/
def State.beginWindow (s : State) : State :=
  if s.cycle.due.isEmpty then s
  else
    let waiting := { s with cycle := { s.cycle with window := .waiting } }
    match s.engine.state with
    | .idle => { s with cycle := { s.cycle with window := .opened } }.serveWindow (s.beforeQuiet false)
    | .await => waiting.countPart .beaconsLate
    | .receive => waiting.countPart .beaconsLate
    | .request => waiting
    | .turnaround => waiting
    | .beacon => waiting

/-- A cycle start now, with this number: the ending cycle's window closed, the parameters taken, the due list formed and
its window begun (R122, R129). -/
def State.startCycle (s : State) (number : Half) : State :=
  let s := s.skipRest
  { s with
    cycle := { number := number, start := s.now, period := periodTime s.params.cyclePeriod
               guardTime := tenthTime s.params.quietGuard, window := .none, due := s.dueList number
               quietTaken := false } }.beginWindow

/-- A write or stop takes its record off the due list; a WAITING window whose list it empties ends at once (R131). -/
def State.dropDue (s : State) (k : Fin 8) : State :=
  let due := s.cycle.due.filter fun j => j ≠ k
  let window := if due.isEmpty && decide (s.cycle.window = .waiting) then Window.none else s.cycle.window
  { s with cycle := { s.cycle with due := due, window := window } }

/-- The end of a turnaround: IDLE, and the window that waits or is open is served (R116, R127, R128). -/
def State.turnaroundEnds (s : State) (quietFirst : Bool) : State :=
  let before := s.beforeQuiet quietFirst
  let s := { s with engine := { s.engine with state := .idle, turnaround := none }
                    cycle := { s.cycle with quietTaken := !before } }
  match s.cycle.window with
  | .none => s
  | .waiting => { s with cycle := { s.cycle with window := .opened } }.serveWindow before
  | .opened => s.serveWindow before

end Sys2Proof.Machine
end

