-- ==== Sys2Proof/Machine/Attempt.lean ====
section
/-! DEFINITION. Chapters 5 and 6: an attempt on the sideband bus from its start to its outcome. -/

namespace Sys2Proof.Machine

/-! ### The end of a transaction (R85 to R91, R95) -/

/-- The ticket of a relay. -/
def Work.ticket : Work → Option Half
  | .identify => none | .status => none | .standDown => none | .relay ticket _ => some ticket

/-- A transaction ends without DONE: a relay raises its result, an internal transaction goes to SC (R88, R91, R95). -/
def State.endFailed (s : State) (x : Transaction) (o : RelayOutcome) : State :=
  match x.work.ticket with
  | some ticket => s.raise (.relayResult ticket x.slot o x.attempts x.busy)
  | none => s.internalFailed x

/-- A transaction ends with DONE (R89, R91, R95). -/
def State.endDone (s : State) (x : Transaction) (body : List Byte) : State :=
  match x.work.ticket with
  | some ticket =>
    s.raise (.relayResult ticket x.slot (.done (decide (Config.relayCarried < body.length)) (body.take Config.relayCarried))
      x.attempts x.busy)
  | none => s.internalDone x body

/-- Retry or end, once attempts used has risen (R86, R87). -/
def State.retryOrEnd (s : State) (x : Transaction) (o : RelayOutcome) : State :=
  if x.attempts ≤ s.params.retryLimit then s.retry x else s.endFailed x o

/-- An unmarked attempt's outcome, in the order of R85. -/
def State.takeOutcome (s : State) (x : Transaction) (o : AttemptOutcome) : State :=
  let s := s.takeAttempt x o
  match o with
  | .done body => s.endDone x body
  | .unsupported => s.endFailed x .unsupported
  | .busy => s.retryOrEnd { x with attempts := x.attempts + 1, busy := x.busy + 1 } .failedBusy
  | .failed k =>
    (s.countSlot x.slot .sidebandFailures).retryOrEnd { x with attempts := x.attempts + 1 } (.failed k)

/-- SE's count of the outcome (R115). -/
def State.countOutcome (s : State) (o : AttemptOutcome) : State :=
  match o.counter with
  | some c => s.countPart c
  | none => s

/-- Every measurement of the engine stopped. -/
def Engine.stopped (e : Engine) : Engine :=
  { e with wire := none, responseTimeout := none, gap := none, drainIdle := none, drainLimit := none, turnaround := none }

/-- The engine in TURNAROUND, two character times at the rate snapshot (R116). -/
def Engine.turn (e : Engine) (now : Nat) : Engine :=
  { e.stopped with state := .turnaround, sbdir := false, draining := false, frame := []
                   turnaround := some { start := now, dur := 2 * e.rate.charTime } }

/-- The end of the attempt with outcome `o`: counted and taken unless the discard mark is set, then TURNAROUND (R92, R115,
R117). -/
def State.endAttempt (s : State) (o : AttemptOutcome) : State :=
  let s := { s with engine := { s.engine with outcome := some o }.turn s.now }
  match s.inFlight with
  | none => s
  | some f =>
    let s := { s with inFlight := none }
    if f.discard then s else (s.countOutcome o).takeOutcome f.tx o

/-! ### The attempt on the wire -/

/-- The head of the list becomes the transaction in flight and its request starts (R84, R104, R105). -/
def State.startAttempt (s : State) : State :=
  match s.transactions with
  | [] => s
  | x :: rest =>
    let rate := s.params.sbRate
    let s := s.countPart .sbAttempts
    { s with
      transactions := rest
      inFlight := some { tx := x, discard := false }
      engine := { s.engine with state := .request, sbdir := true, rate := rate, timeout := s.params.sbResponseTimeout
                                frame := x.frame.map busCharacter, outcome := none, receiver := s.released
                                wire := some (s.timer (x.frame.length * rate.charTime)) } }

/-- The conditions of R104. -/
def State.mayStart (s : State) : Bool :=
  decide (s.engine.state = .idle) && !s.transactions.isEmpty && decide (s.cycle.window = .none) && s.beforeQuiet false

/-- The request has been sent (R105). -/
def State.requestSent (s : State) : State :=
  { s with engine := { s.engine with state := .await, sbdir := false, frame := [], wire := none, receiver := s.released
                                     responseTimeout := some (s.timer (tenthTime s.engine.timeout)) } }

/-- Four character times at the rate snapshot: the gap limit and the idle limit (Table 6-1). -/
def Engine.quietTime (e : Engine) : Nat := 4 * e.rate.charTime

/-! ### The character receiver (R107) -/

/-- A falling edge begins a character: none while one is being received. -/
def CharReceiver.startsAt (r : CharReceiver) (edge : Nat) : Bool :=
  match r with
  | .waiting w => w.startsAt edge
  | .inCharacter _ => false

/-- The character being received can be complete at `t`. -/
def CharReceiver.completesAt (r : CharReceiver) (t : Nat) : Bool :=
  match r with
  | .waiting _ => false
  | .inCharacter m => m.due t

/-- After the expiry of a wait for a falling edge none came before `t`. -/
def CharReceiver.waitsFrom (r : CharReceiver) (t : Nat) : CharReceiver :=
  match r with
  | .waiting w => .waiting (w.waitsFrom t)
  | .inCharacter m => .inCharacter m

/-- A start bit is valid: SBDIR is low, its falling edge can begin a character and comes before the response timeout,
the gap limit or the idle limit is over, and its middle lies half a bit time later (R106, R107, R110, R114). -/
def Engine.startBitValid (e : Engine) (c : Span) : Bool :=
  !e.sbdir && e.receiver.startsAt c.start && beforeDue e.responseTimeout c.start && beforeDue e.gap c.start
    && beforeDue e.drainIdle c.start && decide (c.start ≤ c.stop) && within (e.rate.bitTime / 2) (c.stop - c.start)

/-- A character begins: the middle of its stop bit lies ten and a half bit times after its falling edge, at the rate
snapshot. -/
def State.beginCharacter (s : State) (edge : Nat) : State :=
  { s with engine := { s.engine with receiver := .inCharacter { start := edge, dur := 21 * s.engine.rate.bitTime / 2 } } }

/-- A character is complete. -/
def State.endCharacter (s : State) (c : BusChar) : State :=
  { s with engine := { s.engine with receiver := .waiting { free := s.now, heldLow := decide (c = .framingError) } } }

/-- No falling edge came before now. -/
def State.noEdge (s : State) : State := { s with engine := { s.engine with receiver := s.engine.receiver.waitsFrom s.now } }

/-- A validated start bit in AWAIT begins the response; later ones end the gap or idle measurement (R106, R110, R114); in the
other states SE ignores it (R116). -/
def State.startBit (s : State) : State :=
  match s.engine.state with
  | .await =>
    { s with engine := { s.engine with state := .receive, responseTimeout := none, position := .address, crc := 0
                                       rxLength := 0, rxPayload := [], draining := false } }
  | .receive => { s with engine := { s.engine with gap := none, drainIdle := none } }
  | .idle => s
  | .beacon => s
  | .request => s
  | .turnaround => s

/-- The transaction whose response is being received, before draining. -/
def State.receiving (s : State) : Option Transaction :=
  if s.engine.state = .receive ∧ s.engine.draining = false then s.inFlight.map InFlight.tx else none

/-- RECEIVE, draining. -/
def State.drains (s : State) : Bool := decide (s.engine.state = .receive) && s.engine.draining

/-- The failure of a good character as the field at a position (Table 6-6); none at the check byte. -/
def fieldFailure (position : RxField) (x : Transaction) (b : Byte) : Option FailureKind :=
  match position with
  | .address => if b = responseAddress x.slot then none else some .mismatch
  | .operation => if b = x.work.code then none else some .mismatch
  | .length => if b.toNat ≤ 32 then none else some .overlength
  | .payload => none
  | .check => none

/-- A good field taken: the position advances, the byte enters the running CRC (R108). -/
def Engine.takeField (e : Engine) (b : Byte) : Engine :=
  let e := { e with crc := crc8Byte e.crc b }
  match e.position with
  | .address => { e with position := .operation }
  | .operation => { e with position := .length }
  | .length => { e with rxLength := b.toNat, rxPayload := [], position := if b = 0 then .check else .payload }
  | .payload =>
    { e with rxPayload := e.rxPayload ++ [b]
             position := if e.rxPayload.length + 1 < e.rxLength then .payload else .check }
  | .check => e

/-- A good field and the gap measurement that starts at its end (R108, R110). -/
def State.goodField (s : State) (b : Byte) : State :=
  { s with engine := { s.engine.takeField b with gap := some (s.timer s.engine.quietTime) } }

/-- A failure detected inside a response: pending, and draining begins (R114). The idle time is measured from the end of the
character whatever the level of the line, which a low stop bit leaves low (the model's choice, log 28). -/
def State.beginDrain (s : State) (k : FailureKind) : State :=
  { s with engine := { s.engine with outcome := some (.failed k), draining := true, gap := none
                                     drainIdle := some (s.timer s.engine.quietTime)
                                     drainLimit := some (s.timer (40 * s.engine.rate.charTime)) } }

/-- A character while draining restarts the idle measurement, whatever level it leaves the line at (R114; log 28). -/
def State.drainCharacter (s : State) : State :=
  { s with engine := { s.engine with drainIdle := some (s.timer s.engine.quietTime) } }

/-- The failure a complete character is found to be, at the receive position (R108). -/
def characterFailure (c : BusChar) (position : RxField) (x : Transaction) : Option FailureKind :=
  match c with
  | .framingError => some .framing
  | .parityError => some .parity
  | .good b => fieldFailure position x b

/-- A character that is no field: while draining it restarts the idle measurement, elsewhere SE ignores it (R114, R116). -/
def State.ignoreCharacter (s : State) : State := if s.drains then s.drainCharacter else s

/-- The outcome the response payload's result byte gives; none is MISMATCH (R111, R113). -/
def resultOf (payload : List Byte) : Option AttemptOutcome :=
  match payload with
  | [] => none
  | b :: body =>
    if b = 0 then some (.done body) else if b = 1 then some .busy else if b = 2 then some .unsupported else none

/-- The check byte is judged (R111, R113). -/
def State.checkByte (s : State) (b : Byte) : State :=
  if b ≠ s.engine.crc then s.beginDrain .check
  else
    match resultOf s.engine.rxPayload with
    | some o => s.endAttempt o
    | none => s.beginDrain .mismatch

/-- Draining ends the attempt with the pending outcome (R114). -/
def State.drainEnds (s : State) : State :=
  match s.engine.outcome with
  | some o => s.endAttempt o
  | none => s

end Sys2Proof.Machine
end

