-- ==== Sys2Proof/Machine/Link.lean ====
section
/-! DEFINITION. Chapter 9: the host link's receiver, intake, reply cache and transmitter; and how an event is taken. -/

namespace Sys2Proof.Machine

/-! ### The transmitter (R160, R161, R141) -/

/-- A frame starts on HTXD, its bytes as characters of ten bits (R149). -/
def State.send (s : State) (bytes : List Byte) : State :=
  { s with tx := some { chars := bytes.map hostCharacter, timer := s.timer (s.hostRate.time bytes.length) } }

/-- The reply to the frame in the intake starts: the intake is freed, and a restart it answers becomes pending (R161,
R163). -/
def State.startReply (s : State) (f : Intake) : State :=
  { s.send (hostFrame f.kind f.seq (f.reply.payload f.overrun)) with intake := none, restartPending := f.restart }

/-- A notification's frame starts: its entry is sent, and the resend timer starts if none was outstanding (R141, R145). -/
def State.startNote (s : State) (e : NoteEntry) : State :=
  { s.send e.frame with
    notes := markSent s.notes
    resendTimer := if s.outstanding = 0 then some s.resendStart else s.resendTimer }

/-- The transmitter can start a frame: none is on HTXD, and no restart is pending (R160, R163). -/
def State.txFree (s : State) : Bool := s.tx.isNone && s.restartPending.isNone

/-- A reply that is ready starts, if the transmitter can start a frame (R160). -/
def State.startReady (s : State) : State :=
  if s.txFree then
    match s.intake with
    | some f => s.startReply f
    | none => s
  else s

/-- The transmitter decides, if it can start a frame: a ready reply, else an offered notification (R160). -/
def State.decideTx (s : State) : State :=
  if s.txFree then
    match s.intake with
    | some f => s.startReply f
    | none =>
      match s.offered with
      | some e => s.startNote e
      | none => s
  else s

/-! ### Events -/

/-- The clock moves on to `t`. A notification that is offered while the transmitter is idle starts at the instant it is
offered, unless a reply becomes ready at that same instant (R160); so its start is settled, at the old instant, when the
clock leaves it (log 20). A resend timer's expiry of the very instant it is offered thereby comes before its start (log 34). -/
def State.elapse (s : State) (t : Nat) : State := { (if s.now < t then s.decideTx else s) with now := t }

/-- The end of an event: the examination that the event causes (R66; log 19). -/
def finish (before after : State) : State := if examinationDue before after then after.examine else after

/-- An event of the running part at the instant `t`. While RESET_N is low no event is taken (00 section 0.6); an event that
is not `possible` in this state, or lies in the past, is no event, and nothing changes (log 1, 2). -/
def takeEvent (t : Nat) (possible : Bool) (act : State → State) (s : State) : Host.Outcome State Fault Refusal :=
  .next (if s.resetN && decide (s.now ≤ t) && possible then finish (s.elapse t) (act (s.elapse t)) else s)

/-! ### Characters on HRXD (R150, R153) -/

/-- A span can hold `n` characters of which no two have a gap of 5 ms between them (R150, R153). -/
def HostRate.holds (r : HostRate) (n : Nat) (c : Span) : Bool :=
  let least := r.receiveTime n
  let most := least + (n - 1) * Config.hostGap
  decide (c.start + least ≤ c.stop + Config.tolerance least) && decide (c.stop ≤ c.start + most + Config.tolerance most)

/-- The receiver can take `n` characters of this span: the first falling edge begins a character and, within a frame, comes
before the gap limit is over (R150, R153). -/
def State.takesSpan (s : State) (n : Nat) (c : Span) : Bool :=
  s.hrxd.startsAt c.start && beforeDue s.rxGap c.start && s.hostRate.holds n c

/-- The characters on HRXD have ended, the last one with its stop bit low (`heldLow`) or high. -/
def State.lineFree (s : State) (heldLow : Bool) : State := { s with hrxd := { free := s.now, heldLow := heldLow } }

/-- The event at the end of `n` characters on HRXD. -/
def hostCharacters (n : Nat) (c : Span) (heldLow possible : Bool) (act : State → State) (s : State) :
    Host.Outcome State Fault Refusal :=
  takeEvent c.stop (possible && s.takesSpan n c) (fun s => act (s.lineFree heldLow)) s

/-! ### The receiver (R151 to R154) -/

/-- The receiver back in HUNT, its gap measurement stopped. -/
def State.hunt (s : State) : State := { s with rx := .hunt, rxGap := none }

/-- The gap measurement from the end of a character of a frame (R153). -/
def State.gapStart (s : State) : Timer := s.timer Config.hostGap

/-- The receiver after a good character, in Table 9-2's rows that do not end the frame. -/
def HlRx.take (rx : HlRx) (b : Byte) : HlRx :=
  match rx with
  | .hunt => if b = Config.sync then .headerLen else .hunt
  | .headerLen => .headerKind b
  | .headerKind len => .headerSeq len b
  | .headerSeq len kind => if len = 0 then .check kind b [] none else .payload len kind b []
  | .payload len kind seq taken =>
    if taken.length + 1 < len.toNat then .payload len kind seq (taken ++ [b]) else .check kind seq (taken ++ [b]) none
  | .check kind seq taken none => .check kind seq taken (some b)
  | .check kind seq taken (some h) => .check kind seq taken (some h)

/-- A good character neither completes the frame nor abandons it (R151, R152). -/
def HlRx.carriesOn (rx : HlRx) (b : Byte) : Bool :=
  match rx with
  | .hunt => true
  | .headerLen => decide (b.toNat ≤ Config.maxLen)
  | .headerKind _ => true
  | .headerSeq _ _ => true
  | .payload _ _ _ _ => true
  | .check _ _ _ none => true
  | .check _ _ _ (some _) => false

/-- A good character taken, with the gap measurement restarted while a frame is in progress (R151, R153). -/
def State.takeCharacter (s : State) (b : Byte) : State :=
  let rx := s.rx.take b
  { s with rx := rx, rxGap := if rx = .hunt then none else some s.gapStart }

/-- A frame with these contents and this first CRC character can complete now: it is the frame in progress, or, from
HUNT, the whole frame stands for its characters (log 9). -/
def HlRx.completes (rx : HlRx) (kind seq : Byte) (body : List Byte) (high : Byte) : Bool :=
  match rx with
  | .hunt => decide (body.length ≤ Config.maxLen)
  | .check k q p (some h) => k = kind && q = seq && p = body && h = high
  | .check _ _ _ none => false
  | .headerLen => false
  | .headerKind _ => false
  | .headerSeq _ _ => false
  | .payload _ _ _ _ => false

/-- How many characters of that frame are still to come. -/
def HlRx.charactersLeft (rx : HlRx) (body : List Byte) : Nat :=
  match rx with
  | .hunt => body.length + 6
  | .headerLen => 1
  | .headerKind _ => 1
  | .headerSeq _ _ => 1
  | .payload _ _ _ _ => 1
  | .check _ _ _ _ => 1

/-- The event at the end of the last character of a frame with these contents (R154). -/
def frameEvent (c : Span) (kind seq : Byte) (body : List Byte) (crc : Half) (possible : Bool) (act : State → State)
    (s : State) : Host.Outcome State Fault Refusal :=
  hostCharacters (s.rx.charactersLeft body) c false (s.rx.completes kind seq body (crcHigh crc) && possible)
    (fun s => act s.hunt) s

/-! ### The intake, the reply cache and dispatch (R155 to R158) -/

/-- The frame enters the intake with its reply ready. -/
def State.enter (s : State) (kind seq : Byte) (payload : List Byte) (reply : Reply) (restart : Option RestartKind) : State :=
  { s with intake := some { kind := kind, seq := seq, payload := payload, reply := reply, overrun := false
                            restart := restart } }

/-- A cache entry answers a frame (R156). -/
def CacheEntry.hit (c : CacheEntry) (kind seq : Byte) : Bool := c.seq = seq && c.kind = kind

/-- Dispatch: BAD_REQUEST for a kind or length not accepted, else the owner's execution and the cache (R157, R158). -/
def State.dispatch (s : State) (kind seq : Byte) (payload : List Byte) (restart : Option RestartKind)
    (owner : State → State × Reply) : State :=
  if accepts kind payload.length then
    let r := owner s
    { r.1 with cache := some { seq := seq, kind := kind, reply := r.2 } }.enter kind seq payload r.2 restart
  else s.enter kind seq payload .badRequest none

/-- A good frame that completes, by the first case of R155 that applies. -/
def State.takeFrame (s : State) (kind seq : Byte) (payload : List Byte) (restart : Option RestartKind)
    (owner : State → State × Reply) : State :=
  if s.restartPending.isSome then s
  else
    match s.intake with
    | some f => { s with intake := some { f with overrun := true } }.countPart .hlOverruns
    | none =>
      match s.cache with
      | some c =>
        if c.hit kind seq then (s.countPart .hlCacheHits).enter kind seq payload c.reply none
        else s.dispatch kind seq payload restart owner
      | none => s.dispatch kind seq payload restart owner

/-- A frame completes with a matching CRC (R154); a reply that this makes ready starts at once if it can (R160, R161). -/
def requestEvent (c : Span) (kind seq : Byte) (payload : List Byte) (restart : Option RestartKind)
    (owner : State → State × Reply) (s : State) : Host.Outcome State Fault Refusal :=
  frameEvent c kind seq payload (frameCrc kind seq payload) true
    (fun s => (s.takeFrame kind seq payload restart owner).startReady) s

end Sys2Proof.Machine
end

