-- ==== Sys2Proof/Machine/Restart.lean ====
section
/-! DEFINITION. The restarts that a RESTART reply's end brings about (R31, R47, R78, R97, R121, R135, R147, R164, R165). -/

namespace Sys2Proof.Machine

/-- NQ at a warm restart: emptied, then RESTARTED(WARM) with sequence number 0 (R147). -/
def State.restartNotes (s : State) : State :=
  { s with notes := [], nextSeq := 0, resendTimer := none }.store (.restarted .warm)

/-- TQ at a warm restart: the transaction in flight marked, the list refilled from what it held before (R97). -/
def State.restartTransactions (s : State) : State :=
  { s with transactions := s.refill, inFlight := s.inFlight.map fun f => { f with discard := true } }

/-- The admission queue rebuilt from the QUEUED slots in ascending order (R78). -/
def State.rebuildQueue (s : State) : State :=
  { s with admissionQueue := allSlots.filter fun i => decide ((s.slot i).state = .queued) }

/-- The 24 state reports (R31). -/
def State.stateReports (s : State) : List Note :=
  allSlots.map fun i => .slotChange i (s.slot i).state (s.slot i).state .warmRestart none

/-- A warm restart takes effect: the queues and the cycle start afresh, the state reports and any grants follow
RESTARTED(WARM), the reply cache is emptied; all else is kept. -/
def State.warmRestart (s : State) : State :=
  let s := ((s.restartNotes.restartTransactions).rebuildQueue).startCycle 0
  let s := (s.raiseAll s.stateReports).examine
  { s with cache := none, restartPending := none }

/-- A cold restart takes effect: as a cold reset by RESET_N, but the straps are not sampled and the part runs on (R163,
R165). -/
def State.coldRestart (s : State) : State := State.cold s.now true s.hostRate s.spres s.pending

/-- The frame on HTXD has ended: a restart pending takes effect, otherwise the transmitter decides (R160, R163). -/
def State.frameEnds (s : State) : State :=
  let s := { s with tx := none }
  match s.restartPending with
  | some .warm => s.warmRestart
  | some .cold => s.coldRestart
  | none => s.decideTx

end Sys2Proof.Machine
end

