-- ==== Sys2Proof/Machine/HostLink.lean ====
section
/-! DEFINITION. The meanings of the host link's events other than requests (chapters 8 and 9). -/

namespace Sys2Proof.Machine

/-- HL_GOOD_CHARACTER: Table 9-2's rows that leave the frame in progress, or HUNT (R151, R153). -/
def execHlGoodCharacter (span : Span) (b : Byte) (s : State) : Host.Outcome State Fault Refusal :=
  hostCharacters 1 span false (s.rx.carriesOn b) (fun s => s.takeCharacter b) s

/-- HL_FRAMING_ERROR: counted in every receiver state, and any frame in progress is abandoned (R150, R151). -/
def execHlFramingError (span : Span) (s : State) : Host.Outcome State Fault Refusal :=
  hostCharacters 1 span true true (fun s => s.hunt.countPart .hlFramingErrors) s

/-- HL_LENGTH_ABORT: a LEN above 56 (R152). -/
def execHlLengthAbort (span : Span) (b : Byte) (s : State) : Host.Outcome State Fault Refusal :=
  hostCharacters 1 span false (decide (s.rx = .headerLen) && decide (Config.maxLen < b.toNat))
    (fun s => s.hunt.countPart .hlLengthAborts) s

/-- HL_GAP_ABORT: 5 ms without the falling edge of a character (R153); one that begins from then on is taken in HUNT. -/
def execHlGapAbort (t : Nat) (s : State) : Host.Outcome State Fault Refusal :=
  takeEvent t (decide (s.rx ≠ .hunt) && dueAt s.rxGap t)
    (fun s => (s.lineFree (s.hrxd.waitsFrom s.now).heldLow).hunt.countPart .hlGapAborts) s

/-- HL_CRC_ERROR: the frame is dropped (R154). -/
def execHlCrcError (span : Span) (kind seq : Byte) (payload : List Byte) (crc : Half) (s : State) :
    Host.Outcome State Fault Refusal :=
  frameEvent span kind seq payload crc (decide (crc ≠ frameCrc kind seq payload))
    (fun s => s.countPart .hlCrcErrors) s

/-- UNKNOWN_KIND_FRAME: a good frame that no request's row stands for (R155 to R157). RESTART with another kind reaches its
owner, which answers BAD_REQUEST (R163; log 10). -/
def execUnknownKindFrame (span : Span) (kind seq : Byte) (payload : List Byte) (s : State) :
    Host.Outcome State Fault Refusal :=
  if spellsRequest kind payload then .next s
  else requestEvent span kind seq payload none (fun s => (s, .badRequest)) s

/-- TX_FRAME_END: a restart pending takes effect, or the transmitter decides (R160, R163). -/
def execTxFrameEnd (t : Nat) (s : State) : Host.Outcome State Fault Refusal :=
  takeEvent t (dueAt ((s.elapse t).tx.map TxFrame.timer) t) State.frameEnds s

/-- A go-back resend: every entry unsent, the timer stopped (R146). -/
def State.goBack (s : State) : State :=
  { s with notes := s.notes.map fun e => { e with sent := false }, resendTimer := none }

/-- RESEND_TIMER_EXPIRY (R146). -/
def execResendTimerExpiry (t : Nat) (s : State) : Host.Outcome State Fault Refusal :=
  takeEvent t (dueAt (s.elapse t).resendTimer t) (fun s => s.goBack.countPart .notesResent) s

end Sys2Proof.Machine
end

