-- ==== Sys2Proof/Machine/Lines.lean ====
section
/-! DEFINITION. The meanings of the presence lines' edges and of the classifiers' deadlines (chapter 2). -/

namespace Sys2Proof.Machine

/-- A settle measurement starts now with LINE_SETTLE in force (R43). -/
def State.settle (s : State) : Settle := { start := s.now, settle := s.params.lineSettle }

/-- A low-time measurement starts now with G and A in force (R38, R43). -/
def State.lowTime (s : State) : LowTime :=
  { start := s.now, glitch := s.params.lineGlitch, attn := s.params.lineAttnLimit }

/-- The settle measurement reaches its deadline. -/
def Settle.due (m : Settle) (t : Nat) : Bool := ({ start := m.start, dur := milliTime m.settle } : Timer).due t

/-- The low time reaches the snapshot A. -/
def LowTime.due (m : LowTime) (t : Nat) : Bool := ({ start := m.start, dur := attnTime m.attn } : Timer).due t

/-- A measured low time lies within the accuracy of the low time elapsed at `t` (R32; log 3). -/
def LowTime.measures (m : LowTime) (t measured : Nat) : Bool :=
  let elapsed := t - m.start
  decide (measured ≤ elapsed + Config.tolerance elapsed) && decide (elapsed ≤ measured + Config.tolerance elapsed)

/-- What INIT holds, once the part runs. -/
def Classifier.initHeld (c : Classifier) : Option (Bool × Settle) :=
  match c with
  | .init held => held
  | .low => none
  | .riseSettling _ => none
  | .high => none
  | .fallMeasuring _ => none

/-- The settle measurement of RISE_SETTLING. -/
def Classifier.rising (c : Classifier) : Option Settle :=
  match c with
  | .init _ => none
  | .low => none
  | .riseSettling m => some m
  | .high => none
  | .fallMeasuring _ => none

/-- The low-time measurement of FALL_MEASURING. -/
def Classifier.falling (c : Classifier) : Option LowTime :=
  match c with
  | .init _ => none
  | .low => none
  | .riseSettling _ => none
  | .high => none
  | .fallMeasuring m => some m

/-- PRESENCE_EDGE_IN_INIT: the settle measurement restarts with the new level and a fresh snapshot (R35). -/
def execPresenceEdgeInInit (t : Nat) (i : Slot) (s : State) : Host.Outcome State Fault Refusal :=
  match (s.classifier i).initHeld with
  | some (level, _) =>
    takeEvent t (s.mayEdge i t) (fun s => (s.setLine i (!level)).setClassifier i (.init (some (!level, s.settle)))) s
  | none => .next s

/-- SETTLE_DEADLINE_IN_INIT: HIGH or LOW by the level held, and the first evaluation (R35, R7). -/
def execSettleDeadlineInInit (t : Nat) (i : Slot) (s : State) : Host.Outcome State Fault Refusal :=
  match (s.classifier i).initHeld with
  | some (level, m) =>
    takeEvent t (m.due t) (fun s => (s.setClassifier i (if level then .high else .low)).firstEvaluation i level) s
  | none => .next s

/-- RISING_EDGE_IN_LOW: settling starts with a snapshot of S (R36). -/
def execRisingEdgeInLow (t : Nat) (i : Slot) (s : State) : Host.Outcome State Fault Refusal :=
  takeEvent t (s.mayEdge i t && decide (s.classifier i = .low))
    (fun s => (s.setLine i true).setClassifier i (.riseSettling s.settle)) s

/-- BOUNCE: a falling edge in RISE_SETTLING, counted (R37, R46). -/
def execBounce (t : Nat) (i : Slot) (s : State) : Host.Outcome State Fault Refusal :=
  takeEvent t (s.mayEdge i t && (s.classifier i).rising.isSome)
    (fun s => ((s.setLine i false).setClassifier i .low).countSlot i .bounces) s

/-- RISE_SETTLE_DEADLINE: HIGH, and ARRIVAL (R37, R8). -/
def execRiseSettleDeadline (t : Nat) (i : Slot) (s : State) : Host.Outcome State Fault Refusal :=
  match (s.classifier i).rising with
  | some m => takeEvent t (m.due t) (fun s => (s.setClassifier i .high).arrival i) s
  | none => .next s

/-- FALLING_EDGE_IN_HIGH: the low-time measurement starts with snapshots of G and A (R38). -/
def execFallingEdgeInHigh (t : Nat) (i : Slot) (s : State) : Host.Outcome State Fault Refusal :=
  takeEvent t (s.mayEdge i t && decide (s.classifier i = .high))
    (fun s => (s.setLine i false).setClassifier i (.fallMeasuring s.lowTime)) s

/-- The low pulse classified at its rising edge (Table 2-4, R40). -/
def State.classify (s : State) (i : Slot) (m : LowTime) (measured : Nat) : State :=
  if measured < m.glitch then (s.setClassifier i .high).countSlot i .glitches
  else if measured < attnTime m.attn then (s.setClassifier i .high).attention i
  else (s.setClassifier i (.riseSettling s.settle)).departure i

/-- RISING_EDGE_IN_FALL_MEASURING: a glitch, an attention, or a departure followed by settling (R39, R40). -/
def execRisingEdgeInFallMeasuring (t : Nat) (i : Slot) (measured : Nat) (s : State) : Host.Outcome State Fault Refusal :=
  match (s.classifier i).falling with
  | some m => takeEvent t (s.mayEdge i t && m.measures t measured) (fun s => (s.setLine i true).classify i m measured) s
  | none => .next s

/-- LOW_TIME_DEADLINE: LOW, and DEPARTURE (R40, R9). -/
def execLowTimeDeadline (t : Nat) (i : Slot) (s : State) : Host.Outcome State Fault Refusal :=
  match (s.classifier i).falling with
  | some m => takeEvent t (m.due t) (fun s => (s.setClassifier i .low).departure i) s
  | none => .next s

end Sys2Proof.Machine
end

