-- ==== Sys2Proof/Machine/Requests.lean ====
section
/-! DEFINITION. The meanings of the requests: what the owning block does and the reply it forms (chapters 1, 3 to 5, 7 to
10, Table 11-2). -/

namespace Sys2Proof.Machine

/-- A request that names one slot, 1 to 24 (R177). -/
def onSlot (slot : Byte) (f : Slot → State → State × Reply) (s : State) : State × Reply :=
  match slotOf slot with
  | some i => f i s
  | none => (s, .refused .range)

/-! ### HL's own (R162, R163) -/

def identReply : Reply :=
  .ok (halfBytes Config.productCode ++ [Config.siliconRevision, Config.slotCount, Config.protocolVersion])

/-- IDENT. -/
def execIdent (span : Span) (seq : Byte) (s : State) : Host.Outcome State Fault Refusal :=
  requestEvent span kindIdent seq [] none (fun s => (s, identReply)) s

/-- RESTART with WARM. -/
def execRestartWarm (span : Span) (seq : Byte) (s : State) : Host.Outcome State Fault Refusal :=
  requestEvent span kindRestart seq [RestartKind.warm.code] (some .warm) (fun s => (s, .ok [])) s

/-- RESTART with COLD. -/
def execRestartCold (span : Span) (seq : Byte) (s : State) : Host.Outcome State Fault Refusal :=
  requestEvent span kindRestart seq [RestartKind.cold.code] (some .cold) (fun s => (s, .ok [])) s

/-! ### SC's (R28 to R30, R51) -/

def SlotRecord.stateBytes (r : SlotRecord) : List Byte := [r.state.code, r.reason.code]

/-- The reply to SLOT_QUERY for one slot; code 0 shows admitted_by or last_status absent (Table 11-2). Bits 1 to 7 of the latch
flags are sent as 0, the model's choice (log 30): the spec gives bit 0 only (Table 11-2, note 2). -/
def SlotRecord.queryBytes (r : SlotRecord) : List Byte :=
  r.stateBytes ++ [boolByte r.attentionLatched, byte r.failures, (r.admittedBy.map AdmittedBy.code).getD 0,
    (r.lastStatus.map fun x => x.condition.code).getD 0]

def State.slotQuery (slot : Byte) (s : State) : State × Reply :=
  if slot = 0 then (s, .ok (allSlots.flatMap fun i => (s.slot i).stateBytes))
  else onSlot slot (fun i s => (s, .ok (s.slot i).queryBytes)) s

def State.release (i : Slot) (s : State) : State × Reply :=
  match (s.slot i).state with
  | .queued => ((s.leaveQueue i).enterParked i .hostRelease, .ok [])
  | .enabling => (s.enterParked i .hostRelease, .ok [])
  | .active => (s.enterReleasing i .hostRelease, .ok [])
  | .unknown => (s, .refused .state)
  | .vacant => (s, .refused .state)
  | .identifying => (s, .refused .state)
  | .pending => (s, .refused .state)
  | .releasing => (s, .refused .state)
  | .parked => (s, .refused .state)
  | .faulted => (s, .refused .state)

def State.clear (i : Slot) (s : State) : State × Reply :=
  if (s.slot i).state = .parked ∨ (s.slot i).state = .faulted then
    (((s.removeEntries i).enterIdentifying i .hostClear).raiseAll (cancelNotes (s.cancelled i)), .ok [])
  else (s, .refused .state)

def State.slotIdentity (i : Slot) (s : State) : State × Reply :=
  match (s.slot i).identity with
  | some d => (s, .ok d.bytes)
  | none => (s, .refused .absent)

/-- SLOT_QUERY. -/
def execSlotQuery (span : Span) (seq slot : Byte) (s : State) : Host.Outcome State Fault Refusal :=
  requestEvent span kindSlotQuery seq [slot] none (State.slotQuery slot) s

/-- RELEASE. -/
def execRelease (span : Span) (seq slot : Byte) (s : State) : Host.Outcome State Fault Refusal :=
  requestEvent span kindRelease seq [slot] none (onSlot slot State.release) s

/-- CLEAR. -/
def execClear (span : Span) (seq slot : Byte) (s : State) : Host.Outcome State Fault Refusal :=
  requestEvent span kindClear seq [slot] none (onSlot slot State.clear) s

/-- SLOT_IDENTITY. -/
def execSlotIdentity (span : Span) (seq slot : Byte) (s : State) : Host.Outcome State Fault Refusal :=
  requestEvent span kindSlotIdentity seq [slot] none (onSlot slot State.slotIdentity) s

/-! ### AT's (R58, R60) -/

def State.admissionWrite (index : Byte) (entry : EntryBytes) (s : State) : State × Reply :=
  match entryOf index, admissionOf entry with
  | some k, some e => (s.setEntry k e, .ok [])
  | some _, none => (s, .badRequest)
  | none, _ => (s, .badRequest)

def State.admissionRead (index : Byte) (s : State) : State × Reply :=
  match entryOf index with
  | some k => (s, .ok (s.entry k).bytes)
  | none => (s, .badRequest)

/-- ADMISSION_WRITE. -/
def execAdmissionWrite (span : Span) (seq index : Byte) (entry : EntryBytes) (s : State) : Host.Outcome State Fault Refusal :=
  requestEvent span kindAdmissionWrite seq (index :: entryBytes entry) none (State.admissionWrite index entry) s

/-- ADMISSION_READ. -/
def execAdmissionRead (span : Span) (seq index : Byte) (s : State) : Host.Outcome State Fault Refusal :=
  requestEvent span kindAdmissionRead seq [index] none (State.admissionRead index) s

/-! ### ES's (R76) -/

/-- The ADMIT of a slot in PENDING or PARKED (R64, R76). -/
def State.admitWaiting (i : Slot) (s : State) : State × Reply :=
  if (s.slot i).units ≤ s.params.budgetLimit then (s.join i .host .hostAdmit, .ok []) else (s, .refused .exceedsLimit)

def State.admitSlot (i : Slot) (s : State) : State × Reply :=
  match (s.slot i).state with
  | .pending => s.admitWaiting i
  | .parked => s.admitWaiting i
  | .unknown => (s, .refused .state)
  | .vacant => (s, .refused .state)
  | .identifying => (s, .refused .state)
  | .queued => (s, .refused .state)
  | .enabling => (s, .refused .state)
  | .active => (s, .refused .state)
  | .releasing => (s, .refused .state)
  | .faulted => (s, .refused .state)

/-- ADMIT. -/
def execAdmit (span : Span) (seq slot : Byte) (s : State) : Host.Outcome State Fault Refusal :=
  requestEvent span kindAdmit seq [slot] none (onSlot slot State.admitSlot) s

/-! ### TQ's (R93, R94) -/

/-- A slot whose module cannot be addressed by a relay (R93). -/
def SlotState.unaddressed : SlotState → Bool
  | .unknown => true | .vacant => true | .identifying => true
  | .pending => false | .queued => false | .enabling => false | .active => false | .releasing => false | .parked => false
  | .faulted => false

def State.acceptRelay (payload : List Byte) (i : Slot) (s : State) : State × Reply :=
  if (s.slot i).state.unaddressed then (s, .refused .state)
  else if Config.relayQuota ≤ s.relaysOutstanding then (s, .refused .queueFull)
  else
    ({ s.enqueue (.fresh i (.relay s.nextTicket payload)) with nextTicket := nextTicketAfter s.nextTicket },
      .accepted s.nextTicket)

/-- RELAY. -/
def execRelay (span : Span) (seq slot : Byte) (payload : List Byte) (s : State) : Host.Outcome State Fault Refusal :=
  requestEvent span kindRelay seq (slot :: payload) none (onSlot slot (State.acceptRelay payload)) s

/-! ### CB's (R131 to R134) -/

/-- A request that names one beacon record (R177). -/
def onBeacon (index : Byte) (f : Fin 8 → State → State × Reply) (s : State) : State × Reply :=
  match beaconOf index with
  | some k => f k s
  | none => (s, .badRequest)

def State.beaconWrite (state interval phase : Byte) (payload : List Byte) (k : Fin 8) (s : State) : State × Reply :=
  match BeaconState.ofCode state with
  | none => (s, .badRequest)
  | some mode =>
    if interval = 0 then (s, .refused .range)
    else if interval.toNat ≤ phase.toNat then (s, .refused .conflict)
    else
      ((s.setBeacon k { state := mode, interval := interval, phase := phase, payload := payload }).dropDue k, .ok [])

def State.beaconStop (k : Fin 8) (s : State) : State × Reply :=
  ((s.setBeacon k { s.beacon k with state := .idle }).dropDue k, .ok [])

def State.beaconRead (k : Fin 8) (s : State) : State × Reply := (s, .ok (s.beacon k).bytes)

/-- BEACON_WRITE. -/
def execBeaconWrite (span : Span) (seq index state interval phase : Byte) (payload : List Byte) (s : State) :
    Host.Outcome State Fault Refusal :=
  requestEvent span kindBeaconWrite seq (index :: state :: interval :: phase :: payload) none
    (onBeacon index (State.beaconWrite state interval phase payload)) s

/-- BEACON_STOP. -/
def execBeaconStop (span : Span) (seq index : Byte) (s : State) : Host.Outcome State Fault Refusal :=
  requestEvent span kindBeaconStop seq [index] none (onBeacon index State.beaconStop) s

/-- BEACON_READ. -/
def execBeaconRead (span : Span) (seq index : Byte) (s : State) : Host.Outcome State Fault Refusal :=
  requestEvent span kindBeaconRead seq [index] none (onBeacon index State.beaconRead) s

/-! ### NQ's (R143, R144) -/

/-- What an acknowledgement of sequence number `n` leaves behind the named entry, if that entry is sent. -/
def ackFrom (n : Half) : List NoteEntry → Option (List NoteEntry)
  | [] => none
  | e :: rest => if e.sent && decide (e.seq = n) then some rest else ackFrom n rest

def State.noteAck (number : Half) (s : State) : State × Reply :=
  match ackFrom number s.notes with
  | some rest =>
    ({ s with notes := rest, resendTimer := if rest.any (fun e => e.sent) then some s.resendStart else none }, .ok [])
  | none => (s, .refused .sequence)

/-- NOTE_ACK. -/
def execNoteAck (span : Span) (seq : Byte) (number : Half) (s : State) : Host.Outcome State Fault Refusal :=
  requestEvent span kindNoteAck seq (halfBytes number) none (State.noteAck number) s

/-! ### PC's (R168 to R174) -/

/-- The parameter and its value in force, as a reply carries them. -/
def Params.bytes (p : Params) (id : ParamId) : List Byte := id.code :: halfBytes (BitVec.ofNat 16 (p.get id))

/-- An accepted SET_PARAM: the value in force replaced, and a lowered budget limit's ejections (R168, R73). A raised limit's
examination comes at the end of the event (R72, R75). -/
def State.applyParam (s : State) (id : ParamId) (v : Nat) : State :=
  let s' := { s with params := s.params.set id v }
  if id = .budgetLimit ∧ v < s.params.budgetLimit then s'.ejectOver else s'

def State.setParam (id : Byte) (value : Half) (s : State) : State × Reply :=
  match ParamId.ofCode id with
  | none => (s, .badRequest)
  | some p =>
    if p.inRange value.toNat then
      if s.params.conflicts p value.toNat then (s, .refused .conflict)
      else (s.applyParam p value.toNat, .ok ((s.params.set p value.toNat).bytes p))
    else (s, .refused .range)

def State.getParam (id : Byte) (s : State) : State × Reply :=
  match ParamId.ofCode id with
  | some p => (s, .ok (s.params.bytes p))
  | none => (s, .badRequest)

/-- The counters of a group as a reply carries them; none for a group above 24 (R173). -/
def State.groupBytes (s : State) (group : Byte) : Option (List Byte) :=
  if group = 0 then some s.partGroup else (slotOf group).map s.slotGroup

/-- Every counter of a group at 0 (R174). -/
def State.clearGroup (s : State) (group : Byte) : State :=
  if group = 0 then { s with partCounters := Vector.replicate 20 0 }
  else
    match slotOf group with
    | some i => { s with slotCounters := s.slotCounters.set i (Vector.replicate 7 0) }
    | none => s

def State.countersRead (group : Byte) (s : State) : State × Reply :=
  match s.groupBytes group with
  | some values => (s, .ok values)
  | none => (s, .refused .range)

def State.countersClear (group : Byte) (s : State) : State × Reply :=
  match s.groupBytes group with
  | some values => (s.clearGroup group, .ok values)
  | none => (s, .refused .range)

/-- SET_PARAM. -/
def execSetParam (span : Span) (seq id : Byte) (value : Half) (s : State) : Host.Outcome State Fault Refusal :=
  requestEvent span kindSetParam seq (id :: halfBytes value) none (State.setParam id value) s

/-- GET_PARAM. -/
def execGetParam (span : Span) (seq id : Byte) (s : State) : Host.Outcome State Fault Refusal :=
  requestEvent span kindGetParam seq [id] none (State.getParam id) s

/-- COUNTERS_READ. -/
def execCountersRead (span : Span) (seq group : Byte) (s : State) : Host.Outcome State Fault Refusal :=
  requestEvent span kindCountersRead seq [group] none (State.countersRead group) s

/-- COUNTERS_CLEAR. -/
def execCountersClear (span : Span) (seq group : Byte) (s : State) : Host.Outcome State Fault Refusal :=
  requestEvent span kindCountersClear seq [group] none (State.countersClear group) s

end Sys2Proof.Machine
end

