-- ==== Sys2Proof/Machine/Reset.lean ====
section
/-! DEFINITION. The meanings of the reset pin's two edges. -/

namespace Sys2Proof.Machine

/-- COLD_RESET: RESET_N falls, and every block takes its cold values (R2, 00 section 0.6 note 3). The presence lines keep
the levels last sampled: none is sampled until the rise. -/
def execColdReset (t : Nat) (s : State) : Host.Outcome State Fault Refusal :=
  .next (if s.resetN && decide (s.now ≤ t) then State.cold t false s.hostRate s.spres s.pending else s)

/-- RESET_N_RISE: the straps are kept and the part runs from its cold values (R149, R34, R124). -/
def execResetNRise (t : Nat) (rate1 rate0 : Bool) (levels : Vector Bool 24) (s : State) :
    Host.Outcome State Fault Refusal :=
  .next
    (if !s.resetN && decide (s.now ≤ t) then State.cold t true (HostRate.ofStraps rate1 rate0) levels s.pending else s)

end Sys2Proof.Machine
end

