-- ==== Sys2Proof/Machine/Sideband.lean ====
section
/-! DEFINITION. The meanings of the sideband engine's events and of the bus cycle's (chapters 6 and 7). -/

namespace Sys2Proof.Machine

/-- ATTEMPT_START (R104, R105). -/
def execAttemptStart (t : Nat) (s : State) : Host.Outcome State Fault Refusal :=
  takeEvent t ({ s with now := t }.mayStart) State.startAttempt s

/-- REQUEST_SENT: the request's last stop bit (R105). -/
def execRequestSent (t : Nat) (s : State) : Host.Outcome State Fault Refusal :=
  takeEvent t (decide (s.engine.state = .request) && dueAt s.engine.wire t) State.requestSent s

/-- RESPONSE_START_BIT: a validated start bit with SBDIR low (R106, R107, R110, R116). -/
def execResponseStartBit (span : Span) (s : State) : Host.Outcome State Fault Refusal :=
  takeEvent span.stop (s.engine.startBitValid span) (fun s => (s.beginCharacter span.start).startBit) s

/-- RESPONSE_CHARACTER: a good character that is a good field before the check byte, or that comes while draining, or that SE
ignores outside a response (R108, R114, R116). -/
def execResponseCharacter (t : Nat) (bits : BusBits) (s : State) : Host.Outcome State Fault Refusal :=
  match busChar bits with
  | some (.good b) =>
    match s.receiving with
    | some x =>
      takeEvent t (s.engine.receiver.completesAt t && decide (s.engine.position ≠ .check)
          && (fieldFailure s.engine.position x b).isNone)
        (fun s => (s.endCharacter (.good b)).goodField b) s
    | none =>
      takeEvent t (s.engine.receiver.completesAt t) (fun s => (s.endCharacter (.good b)).ignoreCharacter) s
  | some .framingError => .next s
  | some .parityError => .next s
  | none => .next s

/-- RESPONSE_ERROR: a bad character or a failing field begins draining (R108, R109, R114); a bad character while draining or
outside a response is a character like any other (R114, R116). -/
def execResponseError (t : Nat) (bits : BusBits) (s : State) : Host.Outcome State Fault Refusal :=
  match busChar bits with
  | some c =>
    match s.receiving with
    | some x =>
      match characterFailure c s.engine.position x with
      | some k => takeEvent t (s.engine.receiver.completesAt t) (fun s => (s.endCharacter c).beginDrain k) s
      | none => .next s
    | none =>
      takeEvent t (s.engine.receiver.completesAt t && (decide (c = .framingError) || decide (c = .parityError)))
        (fun s => (s.endCharacter c).ignoreCharacter) s
  | none => .next s

/-- RESPONSE_CHECK_BYTE: the CRC and the result are judged (R111, R113). -/
def execResponseCheckByte (t : Nat) (bits : BusBits) (s : State) : Host.Outcome State Fault Refusal :=
  match busChar bits with
  | some (.good b) =>
    takeEvent t (s.engine.receiver.completesAt t && s.receiving.isSome && decide (s.engine.position = .check))
      (fun s => (s.endCharacter (.good b)).checkByte b) s
  | some .framingError => .next s
  | some .parityError => .next s
  | none => .next s

/-- RESPONSE_TIMEOUT_EXPIRY in AWAIT: NO_RESPONSE (R106). -/
def execResponseTimeoutExpiry (t : Nat) (s : State) : Host.Outcome State Fault Refusal :=
  takeEvent t (decide (s.engine.state = .await) && dueAt s.engine.responseTimeout t)
    (fun s => s.noEdge.endAttempt (.failed .noResponse)) s

/-- RESPONSE_GAP_EXPIRY inside a response: SHORT (R110). -/
def execResponseGapExpiry (t : Nat) (s : State) : Host.Outcome State Fault Refusal :=
  takeEvent t (s.receiving.isSome && dueAt s.engine.gap t) (fun s => s.noEdge.endAttempt (.failed .short)) s

/-- DRAIN_IDLE_EXPIRY: four character times since the last character, whatever the level of the line (R114; log 28). -/
def execDrainIdleExpiry (t : Nat) (s : State) : Host.Outcome State Fault Refusal :=
  takeEvent t (s.drains && dueAt s.engine.drainIdle t) (fun s => s.noEdge.drainEnds) s

/-- DRAIN_LIMIT_EXPIRY: forty character times since the detection (R114). -/
def execDrainLimitExpiry (t : Nat) (s : State) : Host.Outcome State Fault Refusal :=
  takeEvent t (s.drains && dueAt s.engine.drainLimit t) State.drainEnds s

/-- TURNAROUND_END (R116, R127 to R129). -/
def execTurnaroundEnd (t : Nat) (quietFirst : Bool) (s : State) : Host.Outcome State Fault Refusal :=
  takeEvent t (decide (s.engine.state = .turnaround) && dueAt s.engine.turnaround t)
    (fun s => s.turnaroundEnds quietFirst) s

/-- BEACON_FRAME_END: SBDIR falls, TURNAROUND (R118). -/
def execBeaconFrameEnd (t : Nat) (s : State) : Host.Outcome State Fault Refusal :=
  takeEvent t (decide (s.engine.state = .beacon) && dueAt s.engine.wire t)
    (fun s => { s with engine := { s.engine.turn s.now with receiver := s.released } }) s

/-- CYCLE_START (R122). -/
def execCycleStart (t : Nat) (s : State) : Host.Outcome State Fault Refusal :=
  takeEvent t (({ start := s.cycle.start, dur := s.cycle.period } : Timer).due t)
    (fun s => s.startCycle (s.cycle.number + 1)) s

end Sys2Proof.Machine
end

