-- ==== Sys2Proof/Machine/SlotTimers.lean ====
section
/-! DEFINITION. The meanings of the four slot timers' expiries (R5, R6, R18, R25). -/

namespace Sys2Proof.Machine

/-- POWERUP_DEADLINE_EXPIRY in ENABLING: FAULTED with ENABLE_TIMEOUT (R18). -/
def execPowerupDeadlineExpiry (t : Nat) (i : Slot) (s : State) : Host.Outcome State Fault Refusal :=
  takeEvent t (decide ((s.slot i).state = .enabling) && dueAt (s.slot i).powerup t)
    (fun s => s.enterFaulted i .enableTimeout) s

/-- POLL_TIMER_EXPIRY in ENABLING: a STATUS, and the timer restarts (R6). -/
def execPollTimerExpiry (t : Nat) (i : Slot) (s : State) : Host.Outcome State Fault Refusal :=
  takeEvent t (decide ((s.slot i).state = .enabling) && dueAt (s.slot i).poll t)
    (fun s => (s.enterInternal i .status).updSlot i fun r =>
      { r with poll := some (s.timer (milliTime s.params.pollInterval)) }) s

/-- HEALTH_TIMER_EXPIRY in ACTIVE: a STATUS, and the timer restarts if HEALTH_INTERVAL is not 0 (R6). -/
def execHealthTimerExpiry (t : Nat) (i : Slot) (s : State) : Host.Outcome State Fault Refusal :=
  takeEvent t (decide ((s.slot i).state = .active) && dueAt (s.slot i).health t)
    (fun s => (s.enterInternal i .status).updSlot i fun r => { r with health := s.healthStart }) s

/-- DRAIN_TIMER_EXPIRY in RELEASING: PARKED, confirmed or not (R25). -/
def execDrainTimerExpiry (t : Nat) (i : Slot) (s : State) : Host.Outcome State Fault Refusal :=
  takeEvent t (decide ((s.slot i).state = .releasing) && dueAt (s.slot i).drain t)
    (fun s => s.enterParked i
      (if (s.slot i).standDownConfirmed then .standDownConfirmed else .standDownUnconfirmed)) s

end Sys2Proof.Machine
end

