-- ==== Sys2Proof/Machine/Dispatch.lean ====
section
/-! DEFINITION. The command dispatch: one arm per row of the command table. -/

namespace Sys2Proof.Machine

def exec (i : Instr) (s : State) : Host.Outcome State Fault Refusal :=
  match i with
  | .coldReset t => Sys2Proof.Machine.execColdReset t s
  | .resetNRise t rate1 rate0 levels => Sys2Proof.Machine.execResetNRise t rate1 rate0 levels s
  | .presenceEdgeInInit t n => Sys2Proof.Machine.execPresenceEdgeInInit t n s
  | .settleDeadlineInInit t n => Sys2Proof.Machine.execSettleDeadlineInInit t n s
  | .risingEdgeInLow t n => Sys2Proof.Machine.execRisingEdgeInLow t n s
  | .bounce t n => Sys2Proof.Machine.execBounce t n s
  | .riseSettleDeadline t n => Sys2Proof.Machine.execRiseSettleDeadline t n s
  | .fallingEdgeInHigh t n => Sys2Proof.Machine.execFallingEdgeInHigh t n s
  | .risingEdgeInFallMeasuring t n measured => Sys2Proof.Machine.execRisingEdgeInFallMeasuring t n measured s
  | .lowTimeDeadline t n => Sys2Proof.Machine.execLowTimeDeadline t n s
  | .powerupDeadlineExpiry t n => Sys2Proof.Machine.execPowerupDeadlineExpiry t n s
  | .pollTimerExpiry t n => Sys2Proof.Machine.execPollTimerExpiry t n s
  | .healthTimerExpiry t n => Sys2Proof.Machine.execHealthTimerExpiry t n s
  | .drainTimerExpiry t n => Sys2Proof.Machine.execDrainTimerExpiry t n s
  | .attemptStart t => Sys2Proof.Machine.execAttemptStart t s
  | .requestSent t => Sys2Proof.Machine.execRequestSent t s
  | .responseTimeoutExpiry t => Sys2Proof.Machine.execResponseTimeoutExpiry t s
  | .responseError t bits => Sys2Proof.Machine.execResponseError t bits s
  | .responseCheckByte t bits => Sys2Proof.Machine.execResponseCheckByte t bits s
  | .responseGapExpiry t => Sys2Proof.Machine.execResponseGapExpiry t s
  | .drainIdleExpiry t => Sys2Proof.Machine.execDrainIdleExpiry t s
  | .drainLimitExpiry t => Sys2Proof.Machine.execDrainLimitExpiry t s
  | .turnaroundEnd t quietFirst => Sys2Proof.Machine.execTurnaroundEnd t quietFirst s
  | .cycleStart t => Sys2Proof.Machine.execCycleStart t s
  | .beaconFrameEnd t => Sys2Proof.Machine.execBeaconFrameEnd t s
  | .resendTimerExpiry t => Sys2Proof.Machine.execResendTimerExpiry t s
  | .hlFramingError span => Sys2Proof.Machine.execHlFramingError span s
  | .hlLengthAbort span b => Sys2Proof.Machine.execHlLengthAbort span b s
  | .hlGapAbort t => Sys2Proof.Machine.execHlGapAbort t s
  | .hlCrcError span kind seq payload crc => Sys2Proof.Machine.execHlCrcError span kind seq payload crc s
  | .unknownKindFrame span kind seq payload => Sys2Proof.Machine.execUnknownKindFrame span kind seq payload s
  | .txFrameEnd t => Sys2Proof.Machine.execTxFrameEnd t s
  | .ident span seq => Sys2Proof.Machine.execIdent span seq s
  | .restartWarm span seq => Sys2Proof.Machine.execRestartWarm span seq s
  | .restartCold span seq => Sys2Proof.Machine.execRestartCold span seq s
  | .slotQuery span seq slot => Sys2Proof.Machine.execSlotQuery span seq slot s
  | .release span seq slot => Sys2Proof.Machine.execRelease span seq slot s
  | .clear span seq slot => Sys2Proof.Machine.execClear span seq slot s
  | .slotIdentity span seq slot => Sys2Proof.Machine.execSlotIdentity span seq slot s
  | .admissionWrite span seq index entry => Sys2Proof.Machine.execAdmissionWrite span seq index entry s
  | .admissionRead span seq index => Sys2Proof.Machine.execAdmissionRead span seq index s
  | .admitSlot span seq slot => Sys2Proof.Machine.execAdmit span seq slot s
  | .relay span seq slot payload => Sys2Proof.Machine.execRelay span seq slot payload s
  | .beaconWrite span seq index state interval phase payload => Sys2Proof.Machine.execBeaconWrite span seq index state interval phase payload s
  | .beaconStop span seq index => Sys2Proof.Machine.execBeaconStop span seq index s
  | .beaconRead span seq index => Sys2Proof.Machine.execBeaconRead span seq index s
  | .noteAck span seq number => Sys2Proof.Machine.execNoteAck span seq number s
  | .setParam span seq id value => Sys2Proof.Machine.execSetParam span seq id value s
  | .getParam span seq id => Sys2Proof.Machine.execGetParam span seq id s
  | .countersRead span seq group => Sys2Proof.Machine.execCountersRead span seq group s
  | .countersClear span seq group => Sys2Proof.Machine.execCountersClear span seq group s
  | .responseStartBit span => Sys2Proof.Machine.execResponseStartBit span s
  | .responseCharacter t bits => Sys2Proof.Machine.execResponseCharacter t bits s
  | .hlGoodCharacter span b => Sys2Proof.Machine.execHlGoodCharacter span b s

end Sys2Proof.Machine
end

