-- ==== Sys2Proof/WellFormed.lean ====
section
/-! DEFINITION. Which terms of Instr are commands: operands that the row's own frame or event can carry. -/

namespace Sys2Proof

/-- The time of a character runs forward. -/
def Span.forward (c : Span) : Bool := decide (c.start < c.stop)

/-- The bits of a character begin with a start bit, which is low (R99, R107). -/
def startsLow (bits : BusBits) : Bool := !bits.getLsbD 0

/-- The characters of a command take time; a start bit on SBDAT ends no earlier than it begins, and at 1 Mbit/s may end within
the tick; a character on SBDAT begins with a low bit (R99). A relay payload is 1 to 24 bytes, a beacon payload 1 to 32 (R93,
R132); a frame the receiver completes has at most 56 payload bytes (R151); HL_CRC_ERROR carries a CRC that does not match;
UNKNOWN_KIND_FRAME carries no other row's frame; HL_LENGTH_ABORT carries a LEN above 56 (R152). Every other operand takes
every value. -/
def Instr.wellFormed : Instr → Bool
  | .coldReset _ => true
  | .resetNRise _ _ _ _ => true
  | .presenceEdgeInInit _ _ => true
  | .settleDeadlineInInit _ _ => true
  | .risingEdgeInLow _ _ => true
  | .bounce _ _ => true
  | .riseSettleDeadline _ _ => true
  | .fallingEdgeInHigh _ _ => true
  | .risingEdgeInFallMeasuring _ _ _ => true
  | .lowTimeDeadline _ _ => true
  | .powerupDeadlineExpiry _ _ => true
  | .pollTimerExpiry _ _ => true
  | .healthTimerExpiry _ _ => true
  | .drainTimerExpiry _ _ => true
  | .attemptStart _ => true
  | .requestSent _ => true
  | .responseTimeoutExpiry _ => true
  | .responseError _ bits => startsLow bits
  | .responseCheckByte _ bits => startsLow bits
  | .responseGapExpiry _ => true
  | .drainIdleExpiry _ => true
  | .drainLimitExpiry _ => true
  | .turnaroundEnd _ _ => true
  | .cycleStart _ => true
  | .beaconFrameEnd _ => true
  | .resendTimerExpiry _ => true
  | .hlFramingError c => c.forward
  | .hlLengthAbort c b => c.forward && decide (Config.maxLen < b.toNat)
  | .hlGapAbort _ => true
  | .hlCrcError c kind seq payload crc =>
    c.forward && decide (payload.length ≤ Config.maxLen) && decide (crc ≠ Machine.frameCrc kind seq payload)
  | .unknownKindFrame c kind _ payload =>
    c.forward && decide (payload.length ≤ Config.maxLen) && !Machine.spellsRequest kind payload
  | .txFrameEnd _ => true
  | .ident c _ => c.forward
  | .restartWarm c _ => c.forward
  | .restartCold c _ => c.forward
  | .slotQuery c _ _ => c.forward
  | .release c _ _ => c.forward
  | .clear c _ _ => c.forward
  | .slotIdentity c _ _ => c.forward
  | .admissionWrite c _ _ _ => c.forward
  | .admissionRead c _ _ => c.forward
  | .admitSlot c _ _ => c.forward
  | .relay c _ _ payload => c.forward && decide (1 ≤ payload.length ∧ payload.length ≤ 24)
  | .beaconWrite c _ _ _ _ _ payload => c.forward && decide (1 ≤ payload.length ∧ payload.length ≤ 32)
  | .beaconStop c _ _ => c.forward
  | .beaconRead c _ _ => c.forward
  | .noteAck c _ _ => c.forward
  | .setParam c _ _ _ => c.forward
  | .getParam c _ _ => c.forward
  | .countersRead c _ _ => c.forward
  | .countersClear c _ _ => c.forward
  | .responseStartBit c => decide (c.start ≤ c.stop)
  | .responseCharacter _ bits => startsLow bits
  | .hlGoodCharacter c _ => c.forward

end Sys2Proof
end

