-- ==== Sys2Proof/Safety.lean ====
section
/-! DEFINITION. The laws of the part as properties of a state: what holds between two events. -/

namespace Sys2Proof

/-- The instant of a command's event. -/
def Instr.instant : Instr → Nat
  | .coldReset t => t
  | .resetNRise t _ _ _ => t
  | .presenceEdgeInInit t _ => t
  | .settleDeadlineInInit t _ => t
  | .risingEdgeInLow t _ => t
  | .bounce t _ => t
  | .riseSettleDeadline t _ => t
  | .fallingEdgeInHigh t _ => t
  | .risingEdgeInFallMeasuring t _ _ => t
  | .lowTimeDeadline t _ => t
  | .powerupDeadlineExpiry t _ => t
  | .pollTimerExpiry t _ => t
  | .healthTimerExpiry t _ => t
  | .drainTimerExpiry t _ => t
  | .attemptStart t => t
  | .requestSent t => t
  | .responseTimeoutExpiry t => t
  | .responseError t _ => t
  | .responseCheckByte t _ => t
  | .responseGapExpiry t => t
  | .drainIdleExpiry t => t
  | .drainLimitExpiry t => t
  | .turnaroundEnd t _ => t
  | .cycleStart t => t
  | .beaconFrameEnd t => t
  | .resendTimerExpiry t => t
  | .hlFramingError t => t.stop
  | .hlLengthAbort t _ => t.stop
  | .hlGapAbort t => t
  | .hlCrcError t _ _ _ _ => t.stop
  | .unknownKindFrame t _ _ _ => t.stop
  | .txFrameEnd t => t
  | .ident t _ => t.stop
  | .restartWarm t _ => t.stop
  | .restartCold t _ => t.stop
  | .slotQuery t _ _ => t.stop
  | .release t _ _ => t.stop
  | .clear t _ _ => t.stop
  | .slotIdentity t _ _ => t.stop
  | .admissionWrite t _ _ _ => t.stop
  | .admissionRead t _ _ => t.stop
  | .admitSlot t _ _ => t.stop
  | .relay t _ _ _ => t.stop
  | .beaconWrite t _ _ _ _ _ _ => t.stop
  | .beaconStop t _ _ => t.stop
  | .beaconRead t _ _ => t.stop
  | .noteAck t _ _ => t.stop
  | .setParam t _ _ _ => t.stop
  | .getParam t _ _ => t.stop
  | .countersRead t _ _ => t.stop
  | .countersClear t _ _ => t.stop
  | .responseStartBit t => t.stop
  | .responseCharacter t _ => t
  | .hlGoodCharacter t _ => t.stop

end Sys2Proof

namespace Sys2Proof.Machine

/-! ### Slots (R1, R4, R5, R19, R45, R49) -/

/-- The slot is powered: its enable output is asserted in these states (R4). -/
def SlotState.powered : SlotState → Bool
  | .enabling => true | .active => true | .releasing => true
  | .unknown => false | .vacant => false | .identifying => false | .pending => false | .queued => false | .parked => false
  | .faulted => false

/-- admitted_by is present in these states (R1). -/
def SlotState.admitted : SlotState → Bool
  | .queued => true | .enabling => true | .active => true | .releasing => true
  | .unknown => false | .vacant => false | .identifying => false | .pending => false | .parked => false | .faulted => false

/-- The three groups that bind a slot's state to its classifier's (R45). -/
inductive LineGroup where
  | unsettled | absent | seated
  deriving DecidableEq, Repr

def SlotState.lineGroup : SlotState → LineGroup
  | .unknown => .unsettled
  | .vacant => .absent
  | .identifying => .seated | .pending => .seated | .queued => .seated | .enabling => .seated | .active => .seated
  | .releasing => .seated | .parked => .seated | .faulted => .seated

def Classifier.lineGroup : Classifier → LineGroup
  | .init _ => .unsettled
  | .low => .absent | .riseSettling _ => .absent
  | .high => .seated | .fallMeasuring _ => .seated

/-- R45. -/
def LineLaw (s : State) : Prop := ∀ i : Slot, (s.slot i).state.lineGroup = (s.classifier i).lineGroup

/-- R1's law: no identity in UNKNOWN, VACANT and IDENTIFYING; one in PENDING, QUEUED, ENABLING, ACTIVE, RELEASING and
PARKED. FAULTED may hold one. -/
def IdentityLaw (s : State) : Prop :=
  ∀ i : Slot,
    ((s.slot i).state.unaddressed = true → (s.slot i).identity = none) ∧
      ((s.slot i).state.unaddressed = false → (s.slot i).state ≠ .faulted → (s.slot i).identity.isSome = true)

/-- admitted_by's presence (R1). -/
def AdmittedLaw (s : State) : Prop := ∀ i : Slot, (s.slot i).admittedBy.isSome = (s.slot i).state.admitted

/-- R4. -/
def EnableLaw (s : State) : Prop := ∀ i : Slot, (s.slot i).enable = (s.slot i).state.powered

/-- Each slot timer runs in its one state (Table 1-1, Table 1-4). -/
def SlotTimerLaw (s : State) : Prop :=
  ∀ i : Slot,
    (s.slot i).powerup.isSome = decide ((s.slot i).state = .enabling) ∧
      (s.slot i).poll.isSome
        = decide ((s.slot i).state = .enabling ∧ (s.slot i).identity.map Identity.ready = some .poll) ∧
      ((s.slot i).health.isSome = true → (s.slot i).state = .active) ∧
      ((s.slot i).drain.isSome = true → (s.slot i).state = .releasing)

/-- Field ranges of the slot record (Table 1-1). -/
def SlotRangeLaw (s : State) : Prop :=
  ∀ i : Slot,
    (s.slot i).failures ≤ Config.maxFailures ∧
      ∀ d ∈ (s.slot i).identity, 1 ≤ d.units ∧ d.units ≤ 63 ∧ d.name.length ≤ 16

/-! ### Power (R61, R63, R66) -/

/-- The load units of the slots whose enable output is asserted (R61). -/
def State.poweredUnits (s : State) : Nat := (allSlots.map fun i => if (s.slot i).enable then (s.slot i).units else 0).sum

/-- The number of slots in ENABLING (R61). -/
def State.slotsEnabling (s : State) : Nat := allSlots.countP fun i => decide ((s.slot i).state = .enabling)

/-- R61. -/
def PowerLaw (s : State) : Prop :=
  s.committed = s.poweredUnits ∧ s.committed ≤ 1023 ∧ s.enablingCount = s.slotsEnabling ∧ s.enablingCount ≤ 4

/-- R63. -/
def QueueLaw (s : State) : Prop :=
  s.admissionQueue.Nodup ∧ (∀ i : Slot, i ∈ s.admissionQueue ↔ (s.slot i).state = .queued) ∧
    ∀ i ∈ s.admissionQueue, (s.slot i).units ≤ s.params.budgetLimit

/-- Between events the head of the admission queue does not qualify for a grant (R66). -/
def BlockedLaw (s : State) : Prop := ∀ i ∈ s.admissionQueue.head?, s.qualifies i = false

/-! ### Transactions and the engine (R79, R82, R86, R94, R98) -/

/-- A transaction may address the slot in its state (R82). -/
def Transaction.addressable (x : Transaction) (s : State) : Prop :=
  (s.slot x.slot).state ≠ .unknown ∧ (s.slot x.slot).state ≠ .vacant ∧
    (x.work.internal = false → (s.slot x.slot).state ≠ .identifying)

/-- The fields of an entry (Table 5-1); an entry waits only with attempts left under the largest RETRY_LIMIT. -/
def Transaction.inRange (x : Transaction) : Prop :=
  x.attempts ≤ 7 ∧ x.busy ≤ x.attempts ∧
    (x.work.internal = false → 1 ≤ x.work.payload.length ∧ x.work.payload.length ≤ 24)

/-- R82, with Table 5-1's ranges and R94's ticket. -/
def TransactionLaw (s : State) : Prop :=
  s.transactions.length ≤ 32 ∧ s.relaysOutstanding ≤ 8 ∧
    (∀ i : Slot, s.transactions.countP (fun x => x.internalOf i) ≤ 1) ∧
    (∀ x ∈ s.transactions, x.addressable s ∧ x.inRange) ∧
    (∀ f ∈ s.inFlight, (f.discard = false → f.tx.addressable s) ∧ f.tx.inRange) ∧ s.nextTicket ≠ 0

/-- SE drives the line in these states (R98, Table 6-5). -/
def EngineState.drives : EngineState → Bool
  | .request => true | .beacon => true | .idle => false | .await => false | .receive => false | .turnaround => false

/-- An attempt is in progress in these states (Table 6-5). -/
def EngineState.attempting : EngineState → Bool
  | .request => true | .await => true | .receive => true | .idle => false | .beacon => false | .turnaround => false

/-- The character receiver is within a character (R107). -/
def CharReceiver.busy : CharReceiver → Bool
  | .waiting _ => false
  | .inCharacter _ => true

/-- The engine's outputs and measurements go with its state (R98, Table 6-5, R106, R114, R116). -/
def EngineLaw (s : State) : Prop :=
  s.engine.sbdir = s.engine.state.drives ∧ s.inFlight.isSome = s.engine.state.attempting ∧
    s.engine.wire.isSome = s.engine.state.drives ∧
    s.engine.responseTimeout.isSome = decide (s.engine.state = .await) ∧
    s.engine.turnaround.isSome = decide (s.engine.state = .turnaround) ∧
    (s.engine.draining = true → s.engine.state = .receive ∧ s.engine.outcome.isSome = true)

/-- The character receiver is within no character while SBDIR is high, while SE waits for a response, and while a gap or an
idle time is measured (R98, R106, R107, R110, R114); a gap is measured only inside a response and an idle time only while
draining. -/
def ReceiverLaw (s : State) : Prop :=
  (s.engine.state.drives = true ∨ s.engine.state = .await ∨ s.engine.gap.isSome = true ∨
      s.engine.drainIdle.isSome = true → s.engine.receiver.busy = false) ∧
    (s.engine.gap.isSome = true → s.engine.state = .receive ∧ s.engine.draining = false) ∧
    (s.engine.drainIdle.isSome = true → s.engine.draining = true) ∧
    s.engine.drainLimit.isSome = s.engine.draining

/-! ### The cycle and the beacons (R123, R126, R127, R129, Table 7-3) -/

/-- The quiet point lies in the cycle's second half; the due list ascends; only a window has records due; a window waits
or is open only while the engine is not in IDLE. -/
def CycleLaw (s : State) : Prop :=
  2 * s.cycle.guardTime ≤ s.cycle.period ∧ s.cycle.due.Pairwise (· < ·) ∧
    (s.cycle.window = .none → s.cycle.due = []) ∧ (s.cycle.window = .waiting → s.cycle.due ≠ []) ∧
    (s.cycle.window ≠ .none → s.engine.state ≠ .idle)

/-- Table 7-3's ranges. -/
def BeaconLaw (s : State) : Prop :=
  ∀ k : Fin 8,
    (s.beacon k).phase.toNat < (s.beacon k).interval.toNat ∧ 1 ≤ (s.beacon k).payload.length ∧
      (s.beacon k).payload.length ≤ 32

/-! ### Notifications (R136, R137, R141, R145) -/

/-- The entry is an unsent LOSS marker. -/
def NoteEntry.openLoss (e : NoteEntry) : Bool :=
  match e.note with
  | .loss _ => !e.sent
  | .slotChange _ _ _ _ _ => false
  | .attention _ => false
  | .statusReport _ _ => false
  | .relayResult _ _ _ _ _ => false
  | .restarted _ => false

/-- R137: at most 64 entries, the 64th an unsent LOSS marker, consecutive numbers. R136 and R141: the sent entries are a run
of at most 8 at the head. R145: the resend timer runs exactly while entries are outstanding. -/
def NoteLaw (s : State) : Prop :=
  s.notes.length ≤ 64 ∧ (s.notes.length = 64 → (s.notes.getLast?.map NoteEntry.openLoss) = some true) ∧
    s.notes.map NoteEntry.seq
      = (List.range s.notes.length).map (fun k => s.nextSeq - BitVec.ofNat 16 (s.notes.length - k)) ∧
    s.notes.map NoteEntry.sent
      = List.replicate s.outstanding true ++ List.replicate (s.notes.length - s.outstanding) false ∧
    s.outstanding ≤ 8 ∧ s.resendTimer.isSome = decide (0 < s.outstanding)

/-! ### The host link (R151, R153, R160, R163) -/

/-- The contents the receiver holds fit the frame's LEN (Table 9-2). -/
def HlRx.fits : HlRx → Bool
  | .hunt => true
  | .headerLen => true
  | .headerKind len => decide (len.toNat ≤ Config.maxLen)
  | .headerSeq len _ => decide (len.toNat ≤ Config.maxLen)
  | .payload len _ _ taken => decide (taken.length < len.toNat ∧ len.toNat ≤ Config.maxLen)
  | .check _ _ taken _ => decide (taken.length ≤ Config.maxLen)

/-- A gap is measured exactly while a frame is in progress, from the end of its last character, whose stop bit was high; a
reply waits only while a frame is on HTXD; while a restart is pending its reply is on HTXD and the intake is empty. -/
def LinkLaw (s : State) : Prop :=
  s.rx.fits = true ∧ s.rxGap.isSome = decide (s.rx ≠ .hunt) ∧ s.hrxd.free ≤ s.now ∧
    (∀ m ∈ s.rxGap, m = { start := s.hrxd.free, dur := Config.hostGap } ∧ s.hrxd.heldLow = false) ∧
    (s.intake.isSome = true → s.tx.isSome = true) ∧
    (s.restartPending.isSome = true → s.tx.isSome = true ∧ s.intake = none)

/-! ### Parameters and measurements (R43, R167, R169) -/

/-- Every value in force lies in its range, and the two pairs are consistent (Table 10-1, R169). -/
def ParamLaw (s : State) : Prop :=
  (∀ id : ParamId, id.inRange (s.params.get id) = true) ∧ s.params.lineGlitch < attnTime s.params.lineAttnLimit ∧
    2 * tenthTime s.params.quietGuard ≤ periodTime s.params.cyclePeriod

/-- The level a classifier's line has in its state (Table 2-3); in INIT the level held. -/
def Classifier.level : Classifier → Option Bool
  | .init held => held.map Prod.fst
  | .low => some false
  | .riseSettling _ => some true
  | .high => some true
  | .fallMeasuring _ => some false

/-- The start of a classifier's running measurement. -/
def Classifier.measured : Classifier → Option Nat
  | .init held => held.map fun p => p.2.start
  | .low => none
  | .riseSettling m => some m.start
  | .high => none
  | .fallMeasuring m => some m.start

/-- A exceeds G in every snapshot; INIT measures exactly while RESET_N is high (R34, R43); the level last sampled is the one
of the classifier's state, and a measurement runs from the sample that first read it (Table 2-3, R32, R33). -/
def MeasureLaw (s : State) : Prop :=
  ∀ i : Slot,
    (∀ m ∈ (s.classifier i).falling, m.glitch < attnTime m.attn) ∧
      ((s.classifier i).lineGroup = .unsettled → (s.classifier i).initHeld.isSome = s.resetN) ∧
      (∀ level ∈ (s.classifier i).level, s.spres[i] = level) ∧ (∀ start ∈ (s.classifier i).measured, s.edges[i] = start) ∧
      s.edges[i] ≤ s.now

/-! ### All of them -/

/-- Every law at once: the premise that rules out states no event reaches. -/
structure Lawful (s : State) : Prop where
  line : LineLaw s
  identity : IdentityLaw s
  admitted : AdmittedLaw s
  enable : EnableLaw s
  slotTimer : SlotTimerLaw s
  slotRange : SlotRangeLaw s
  power : PowerLaw s
  queue : QueueLaw s
  blocked : BlockedLaw s
  transaction : TransactionLaw s
  engine : EngineLaw s
  receiver : ReceiverLaw s
  cycle : CycleLaw s
  beacon : BeaconLaw s
  note : NoteLaw s
  link : LinkLaw s
  param : ParamLaw s
  measure : MeasureLaw s

/-! ### Words for statements -/

/-- The part runs and `t` is not in the past: an event can be taken at `t`. -/
def State.takes (s : State) (t : Nat) : Prop := s.resetN = true ∧ s.now ≤ t

/-- A frame of a request's command: the span of its characters still to come, and its contents KIND, SEQ and payload (Table
11-2). -/
structure RequestFrame where
  span : Span
  kind : Byte
  seq : Byte
  payload : List Byte
  deriving DecidableEq, Repr

/-- `n` characters of this span come on HRXD: their first falling edge comes after the last character's end, or, after a
framing error, strictly after it, the line having been high; within a frame it comes before the 5 ms are over; and their time
is that of `n` characters with gaps of less than 5 ms (R150, R153; the accuracy of section 0.7, logs 3 and 26). -/
def State.hears (s : State) (n : Nat) (c : Span) : Prop :=
  (if s.hrxd.heldLow = true then s.hrxd.free < c.start else s.hrxd.free ≤ c.start) ∧
    (∀ m ∈ s.rxGap, c.start ≤ m.start + m.dur + Config.tolerance m.dur) ∧
    c.start + s.hostRate.receiveTime n ≤ c.stop + Config.tolerance (s.hostRate.receiveTime n) ∧
    c.stop ≤ c.start + (s.hostRate.receiveTime n + (n - 1) * 5000)
      + Config.tolerance (s.hostRate.receiveTime n + (n - 1) * 5000)

/-- The frame in progress has these contents and this first CRC character, and its last character comes; or, from HUNT, all of
its characters come (R151, R154; log 9). -/
def State.hearsFrame (s : State) (f : RequestFrame) (crc : Half) : Prop :=
  s.takes f.span.stop ∧
    (s.rx = .check f.kind f.seq f.payload (some (crcHigh crc)) ∧ s.hears 1 f.span ∨
      s.rx = .hunt ∧ f.payload.length ≤ 56 ∧ s.hears (f.payload.length + 6) f.span)

/-- The frame completes with a matching CRC (R154). -/
def State.completes (s : State) (f : RequestFrame) : Prop := s.hearsFrame f (frameCrc f.kind f.seq f.payload)

/-- It completes, no restart is pending, the intake is empty, and the reply cache does not answer it (R155, R156). -/
def State.receives (s : State) (f : RequestFrame) : Prop :=
  s.completes f ∧ s.restartPending = none ∧ s.intake = none ∧ ∀ c ∈ s.cache, c.hit f.kind f.seq = false

/-- The frame of these bytes as it is on HTXD from `t` on: each a character of ten bits, and the time of them all at the strap
rate (R149). -/
def State.frameFrom (s : State) (t : Nat) (bytes : List Byte) : TxFrame :=
  { chars := bytes.map hostCharacter, timer := { start := t, dur := s.hostRate.time bytes.length } }

/-- The frame's reply is on HTXD if the transmitter was idle, and a restart it answers is then pending; otherwise it waits in
the intake (R160, R161, R163). `x` is what the transmitter had when the frame completed. -/
def Replied (x : Option TxFrame) (s s' : State) (f : RequestFrame) (r : Reply) (restart : Option RestartKind) : Prop :=
  (x = none →
    s'.intake = none ∧ s'.restartPending = restart ∧
      s'.tx = some (s.frameFrom f.span.stop (hostFrame f.kind f.seq (r.payload false)))) ∧
    (x ≠ none →
      s'.tx = x ∧ s'.restartPending = none ∧
        s'.intake = some { kind := f.kind, seq := f.seq, payload := f.payload, reply := r, overrun := false
                           restart := restart })

/-- The receiver has taken the frame's last character: HUNT, no gap measured, and HRXD free for the next one. -/
def Heard (s' : State) (f : RequestFrame) : Prop :=
  s'.now = f.span.stop ∧ s'.rx = .hunt ∧ s'.rxGap = none ∧ s'.hrxd = { free := f.span.stop, heldLow := false }

/-- The command answers the next state that is `after` but for the receiver, back in HUNT, the reply cache, which holds the
reply, the intake and transmitter, which the reply has reached, and a notification whose frame had started before (R141):
nothing else differs (R158). -/
def Executed (c : Instr) (s after : State) (f : RequestFrame) (r : Reply) (restart : Option RestartKind) : Prop :=
  ∃ s', exec c s = .next s' ∧ Heard s' f ∧ s'.cache = some { seq := f.seq, kind := f.kind, reply := r } ∧
    Replied (s.elapse f.span.stop).tx s s' f r restart ∧
    s' = { after with now := s'.now, rx := s'.rx, rxGap := s'.rxGap, hrxd := s'.hrxd, cache := s'.cache
                      intake := s'.intake, tx := s'.tx, restartPending := s'.restartPending
                      notes := (s.elapse f.span.stop).notes, resendTimer := (s.elapse f.span.stop).resendTimer }

/-- The frame a command of the host link completes; none for the other commands. -/
def requestFrame : Instr → Option RequestFrame
  | .unknownKindFrame c kind seq payload => some ⟨c, kind, seq, payload⟩
  | .ident c seq => some ⟨c, kindIdent, seq, []⟩
  | .restartWarm c seq => some ⟨c, kindRestart, seq, [1]⟩
  | .restartCold c seq => some ⟨c, kindRestart, seq, [2]⟩
  | .slotQuery c seq slot => some ⟨c, kindSlotQuery, seq, [slot]⟩
  | .release c seq slot => some ⟨c, kindRelease, seq, [slot]⟩
  | .clear c seq slot => some ⟨c, kindClear, seq, [slot]⟩
  | .slotIdentity c seq slot => some ⟨c, kindSlotIdentity, seq, [slot]⟩
  | .admissionWrite c seq index entry => some ⟨c, kindAdmissionWrite, seq, index :: entryBytes entry⟩
  | .admissionRead c seq index => some ⟨c, kindAdmissionRead, seq, [index]⟩
  | .admitSlot c seq slot => some ⟨c, kindAdmit, seq, [slot]⟩
  | .relay c seq slot payload => some ⟨c, kindRelay, seq, slot :: payload⟩
  | .beaconWrite c seq index state interval phase payload =>
    some ⟨c, kindBeaconWrite, seq, index :: state :: interval :: phase :: payload⟩
  | .beaconStop c seq index => some ⟨c, kindBeaconStop, seq, [index]⟩
  | .beaconRead c seq index => some ⟨c, kindBeaconRead, seq, [index]⟩
  | .noteAck c seq number => some ⟨c, kindNoteAck, seq, halfBytes number⟩
  | .setParam c seq id value => some ⟨c, kindSetParam, seq, id :: halfBytes value⟩
  | .getParam c seq id => some ⟨c, kindGetParam, seq, [id]⟩
  | .countersRead c seq group => some ⟨c, kindCountersRead, seq, [group]⟩
  | .countersClear c seq group => some ⟨c, kindCountersClear, seq, [group]⟩
  | .coldReset _ => none | .resetNRise _ _ _ _ => none | .presenceEdgeInInit _ _ => none
  | .settleDeadlineInInit _ _ => none | .risingEdgeInLow _ _ => none | .bounce _ _ => none
  | .riseSettleDeadline _ _ => none | .fallingEdgeInHigh _ _ => none | .risingEdgeInFallMeasuring _ _ _ => none
  | .lowTimeDeadline _ _ => none | .powerupDeadlineExpiry _ _ => none | .pollTimerExpiry _ _ => none
  | .healthTimerExpiry _ _ => none | .drainTimerExpiry _ _ => none | .attemptStart _ => none | .requestSent _ => none
  | .responseTimeoutExpiry _ => none | .responseError _ _ => none | .responseCheckByte _ _ => none
  | .responseGapExpiry _ => none | .drainIdleExpiry _ => none | .drainLimitExpiry _ => none | .turnaroundEnd _ _ => none
  | .cycleStart _ => none | .beaconFrameEnd _ => none | .resendTimerExpiry _ => none | .hlFramingError _ => none
  | .hlLengthAbort _ _ => none | .hlGapAbort _ => none | .hlCrcError _ _ _ _ _ => none | .txFrameEnd _ => none
  | .responseStartBit _ => none | .responseCharacter _ _ => none | .hlGoodCharacter _ _ => none

/-- Entries as notifications raised in this order are stored: unsent, with consecutive numbers from `q` on (R137, R138). -/
def numbered (q : Half) : List Note → List NoteEntry
  | [] => []
  | n :: rest => { seq := q, note := n, sent := false } :: numbered (q + 1) rest

/-- The notification list at the instant of the event that led to `s'`, before the event. -/
def notesAt (s s' : State) : List NoteEntry := (s.elapse s'.now).notes

/-- The value of a saturating count after `n` increments (R139, R140, R171). -/
def saturated {w : Nat} (c : BitVec w) (n : Nat) : Nat := min (c.toNat + n) (2 ^ w - 1)

/-- An unsent LOSS marker (R139). -/
def marker (q count : Half) : NoteEntry := { seq := q, note := .loss count, sent := false }

/-- The event raised exactly these notifications, in this order (R138 to R140, Table 8-3). With room for all of them they are
stored behind what the list held. If it held 63 entries or fewer but they find no room, the first ones fill it to 63, and the
rest are lost: a LOSS marker, the 64th entry, counts them. If it held 63 or 64 and ended with an unsent LOSS marker, that one
counts them all. NOTES_LOST rises by 1 for each one lost. -/
def RaisedExactly (s s' : State) (ns : List Note) : Prop :=
  (s.notes.length + ns.length ≤ 63 →
    s'.notes = notesAt s s' ++ numbered s.nextSeq ns ∧ s'.nextSeq = s.nextSeq + BitVec.ofNat 16 ns.length ∧
      s'.partCount .notesLost = s.partCount .notesLost) ∧
    (∀ room lost, s.notes.length + room = 63 → ns.length = room + lost → 0 < lost →
      (room = 0 → ((notesAt s s').getLast?.map NoteEntry.openLoss) = some false) →
      s'.notes
          = notesAt s s' ++ numbered s.nextSeq (ns.take room)
            ++ [marker (s.nextSeq + BitVec.ofNat 16 room) (BitVec.ofNat 16 (min lost 65535))] ∧
        s'.nextSeq = s.nextSeq + BitVec.ofNat 16 (room + 1) ∧
        (s'.partCount .notesLost).toNat = saturated (s.partCount .notesLost) lost) ∧
    ∀ init q count, 63 ≤ s.notes.length → notesAt s s' = init ++ [marker q count] →
      s'.notes = init ++ [marker q (BitVec.ofNat 16 (saturated count ns.length))] ∧ s'.nextSeq = s.nextSeq ∧
        (s'.partCount .notesLost).toNat = saturated (s.partCount .notesLost) ns.length

/-- The event raised exactly this notification. -/
def RaisedOnce (s s' : State) (n : Note) : Prop := RaisedExactly s s' [n]

/-- The event raised these notifications in this order, and behind them only those of grants of queued slots, which the
examination at the end of the event made (R66, R138). -/
def Raised (s s' : State) (ns : List Note) : Prop :=
  ∃ grants : List Slot, RaisedExactly s s' (ns ++ grants.map fun i => .slotChange i .queued .enabling .enableGranted none)

/-- The relays of slot `i` that a departure or CLEAR cancels, as RELAY_RESULT notifications: the one in flight and not yet
marked first, then the queued ones in list order (R96). -/
def State.cancelResults (s : State) (i : Slot) : List Note :=
  ((s.inFlight.toList.filter (fun f => f.discard = false)).map InFlight.tx ++ s.transactions).filterMap fun x =>
    match x.work with
    | .relay ticket _ => if x.slot = i then some (.relayResult ticket i .cancelled x.attempts x.busy) else none
    | .identify => none
    | .status => none
    | .standDown => none

/-- The request's reply is cached and has gone to HTXD or waits in the intake, and the receiver is back in HUNT (R158). -/
def Answered (s s' : State) (f : RequestFrame) (r : Reply) : Prop :=
  s'.cache = some { seq := f.seq, kind := f.kind, reply := r } ∧ Replied (s.elapse f.span.stop).tx s s' f r none ∧ Heard s' f

/-- The law of R65, between the states before and after an event: every slot that has entered ENABLING was granted, all grants
together leave the committed units within the budget limit and the enabling count within the stagger limit, and, but where a
restart took effect, a slot granted stood before every slot that still waits (R66, R67). -/
def GrantsInOrder (s s' : State) : Prop :=
  ∀ i : Slot, (s.slot i).state ≠ .enabling → (s'.slot i).state = .enabling →
    (s'.slot i).reason = .enableGranted ∧ s'.committed ≤ s'.params.budgetLimit ∧
      s'.enablingCount ≤ s'.params.staggerLimit ∧
      ((s.restartPending ≠ none → s'.restartPending ≠ none) →
        ∀ j ∈ s.admissionQueue, j ∈ s'.admissionQueue → s.admissionQueue.idxOf i < s.admissionQueue.idxOf j)

/-- No slot's record or counters, part-wide counter, transaction, notification number or Enable Sequencer value differs. -/
def SameSlots (s s' : State) : Prop :=
  s'.slots = s.slots ∧ s'.slotCounters = s.slotCounters ∧ s'.partCounters = s.partCounters ∧
    s'.admissionQueue = s.admissionQueue ∧ s'.committed = s.committed ∧ s'.enablingCount = s.enablingCount ∧
    s'.transactions = s.transactions ∧ s'.inFlight = s.inFlight ∧ s'.nextSeq = s.nextSeq

/-- Every other slot's record is as before, but for a slot that waited in the admission queue and that the examination at
the end of the event granted (R14, R66; in which order and within which limits, `GrantsInOrder` says). -/
def OtherSlotsKept (s s' : State) (i : Slot) : Prop :=
  ∀ j : Slot, j ≠ i →
    s'.slot j = s.slot j ∨
      j ∈ s.admissionQueue ∧ s'.slot j = { s'.granted (s.slot j) with state := .enabling, reason := .enableGranted }

/-- Of the slot groups, this counter alone differs: it has risen by 1, or stands at its largest value. -/
def Counted (s s' : State) (i : Slot) (c : SlotCounter) : Prop :=
  s'.slotCount i c = satInc (s.slotCount i c) ∧
    ∀ (j : Slot) (d : SlotCounter), j ≠ i ∨ d ≠ c → s'.slotCount j d = s.slotCount j d

/-- Of the slot groups, no counter differs but these of slot `i`. -/
def SlotCountsKept (s s' : State) (i : Slot) (but : List SlotCounter) : Prop :=
  ∀ (j : Slot) (d : SlotCounter), j ≠ i ∨ d ∉ but → s'.slotCount j d = s.slotCount j d

/-- The faults counter of slot `i` rises at its entry into FAULTED, and only there (R11, R26). -/
def FaultsCounted (s s' : State) (i : Slot) : Prop :=
  s'.slotCount i .faults
    = if (s.slot i).state ≠ .faulted ∧ (s'.slot i).state = .faulted then satInc (s.slotCount i .faults)
      else s.slotCount i .faults

/-- Of the part-wide group, this counter alone differs. -/
def PartCounted (s s' : State) (c : PartCounter) : Prop :=
  s'.partCount c = satInc (s.partCount c) ∧ ∀ d : PartCounter, d ≠ c → s'.partCount d = s.partCount d

/-- The tables, parameters, ticket counter, reset pin, rate and queue of commands are as before. -/
def TablesKept (s s' : State) : Prop :=
  s'.resetN = s.resetN ∧ s'.hostRate = s.hostRate ∧ s'.admission = s.admission ∧ s'.params = s.params ∧
    s'.nextTicket = s.nextTicket ∧ s'.pending = s.pending

/-- The engine, the cycle and the beacon records are as before. -/
def BusKept (s s' : State) : Prop := s'.engine = s.engine ∧ s'.cycle = s.cycle ∧ s'.beacons = s.beacons

/-- The host link's receiver and reply cache are as before. -/
def ReceiverKept (s s' : State) : Prop := s'.hrxd = s.hrxd ∧ s'.rx = s.rx ∧ s'.rxGap = s.rxGap ∧ s'.cache = s.cache

/-- No notification is raised: the list is the one that the instant of the event found. -/
def Silent (s s' : State) : Prop := s'.nextSeq = s.nextSeq ∧ s'.notes = notesAt s s'

/-- The frame on HTXD, the intake, a restart pending and the resend timer are as the instant of the event found them: a frame
that could start before that instant has started (R160). -/
def TransmitterKept (s s' : State) : Prop :=
  s'.tx = (s.elapse s'.now).tx ∧ s'.intake = (s.elapse s'.now).intake ∧
    s'.restartPending = (s.elapse s'.now).restartPending ∧ s'.resendTimer = (s.elapse s'.now).resendTimer

/-- The resend timer is as the instant of the event found it. -/
def ResendKept (s s' : State) : Prop := s'.resendTimer = (s.elapse s'.now).resendTimer

/-- The Enable Sequencer's queue and counts are as before. -/
def PowerKept (s s' : State) : Prop :=
  s'.admissionQueue = s.admissionQueue ∧ s'.committed = s.committed ∧ s'.enablingCount = s.enablingCount

/-- What a deassertion of slot `i`'s enable output gives back, read where no slot waits to take it: its units, and its place
among the slots in ENABLING (R69, R70). -/
def Credited (s s' : State) (i : Slot) : Prop :=
  s.admissionQueue = [] →
    s'.committed = (if (s.slot i).enable then s.committed - (s.slot i).units else s.committed) ∧
      s'.enablingCount = (if (s.slot i).state = .enabling then s.enablingCount - 1 else s.enablingCount)

/-- A slot has left ENABLING with its power kept, read where no slot waits to take its place (R70). -/
def LeftEnabling (s s' : State) : Prop :=
  s.admissionQueue = [] → s'.committed = s.committed ∧ s'.enablingCount = s.enablingCount - 1

/-- And the transactions, waiting and in flight. -/
def QueuesKept (s s' : State) : Prop :=
  PowerKept s s' ∧ s'.transactions = s.transactions ∧ s'.inFlight = s.inFlight

/-- The list `l` after SC has entered internal work `w` for slot `i` (R81): with no internal entry of the slot, a fresh one at
the tail; with one of this kind, as it was; with one of another kind, a fresh one at the tail in its place. Every other entry
stays where it was (R79). -/
def Enters (l l' : List Transaction) (i : Slot) (w : Work) : Prop :=
  ((∀ x ∈ l, x.internalOf i = false) → l' = l ++ [{ slot := i, work := w, attempts := 0, busy := 0 }]) ∧
    ∀ first x later, l = first ++ x :: later → (∀ y ∈ first, y.internalOf i = false) → x.internalOf i = true →
      (x.work = w → l' = l) ∧
        (x.work ≠ w →
          l' = l.filter (fun y => y.internalOf i = false) ++ [{ slot := i, work := w, attempts := 0, busy := 0 }])

/-- The transactions of every other slot are as before. -/
def OtherWorkKept (s s' : State) (i : Slot) : Prop :=
  ∀ x : Transaction, x.slot ≠ i → (x ∈ s'.transactions ↔ x ∈ s.transactions)

/-- No part-wide counter differs but NOTES_LOST, which counts the notifications that find no room (R139). -/
def PartKept (s s' : State) : Prop := ∀ c : PartCounter, c ≠ .notesLost → s'.partCount c = s.partCount c

/-- What was sampled on the presence lines is as before. -/
def SamplesKept (s s' : State) : Prop := s'.spres = s.spres ∧ s'.edges = s.edges

/-- The sample of presence line `i` at `t` is the first to read `level` (R32). -/
def Sampled (s s' : State) (t : Nat) (i : Slot) (level : Bool) : Prop :=
  s'.spres = s.spres.set i level ∧ s'.edges = s.edges.set i t

/-- And the classifiers. -/
def LinesKept (s s' : State) : Prop := SamplesKept s s' ∧ s'.classifiers = s.classifiers

/-- The engine alone differs, with what it has in flight as before. -/
def EngineAlone (s s' : State) : Prop :=
  SameSlots s s' ∧ Silent s s' ∧ s'.cycle = s.cycle ∧ s'.beacons = s.beacons ∧ TablesKept s s' ∧ ReceiverKept s s' ∧
    TransmitterKept s s' ∧ LinesKept s s'

/-- Classifier `i` alone differs, and is now `c`. -/
def ClassifierBecomes (s s' : State) (i : Slot) (c : Classifier) : Prop :=
  s'.classifier i = c ∧ ∀ j : Slot, j ≠ i → s'.classifier j = s.classifier j

/-- Slot `i` has entered IDENTIFYING: the fields of R8 are cleared, the enable output is as before, and an IDENTIFY has been
entered behind the entries `kept`. -/
def EnteredIdentifying (s s' : State) (i : Slot) (why : Reason) (kept : List Transaction) : Prop :=
  s'.slot i
      = { state := .identifying, reason := why, identity := none, admittedBy := none, attentionLatched := false,
          reportOwed := false, failures := 0, lastStatus := none, standDownConfirmed := false, powerup := none,
          poll := none, health := none, drain := none, enable := (s.slot i).enable } ∧
    Enters kept s'.transactions i .identify

/-- Slot `i` has departed (R9): VACANT with every optional field absent, unpowered, none of its entries left, its
transaction in flight marked, and out of the admission queue. -/
def Departed (s s' : State) (i : Slot) : Prop :=
  s'.slot i
      = { state := .vacant, reason := .lineDeparture, identity := none, admittedBy := none, attentionLatched := false,
          reportOwed := false, failures := 0, lastStatus := none, standDownConfirmed := false, powerup := none,
          poll := none, health := none, drain := none, enable := false } ∧
    s'.transactions = s.transactions.filter (fun x => x.slot ≠ i) ∧
    s'.inFlight = s.inFlight.map (fun f => if f.tx.slot = i then { f with discard := true } else f) ∧
    i ∉ s'.admissionQueue

/-- A character on SBDAT carries a byte: start bit low, data least significant bit first, an odd number of ones with the parity
bit, stop bit high (R99). -/
def CarriesByte (bits : BusBits) (b : Byte) : Prop :=
  bits.getLsbD 0 = false ∧ (∀ k : Fin 8, bits.getLsbD (k.val + 1) = b.getLsbD k.val) ∧
    ((List.range 9).countP fun k => bits.getLsbD (k + 1)) % 2 = 1 ∧ bits.getLsbD 10 = true

/-- A character on HTXD carries a byte: start bit low, data least significant bit first, stop bit high, and no parity bit
(R149). -/
def CarriesHostByte (bits : HostBits) (b : Byte) : Prop :=
  bits.getLsbD 0 = false ∧ (∀ k : Fin 8, bits.getLsbD (k.val + 1) = b.getLsbD k.val) ∧ bits.getLsbD 9 = true

/-- The character receiver is within a character that is complete at `t`, ten and a half bit times from its falling edge
(R107). -/
def State.formed (s : State) (t : Nat) : Prop := ∃ m, s.engine.receiver = .inCharacter m ∧ m.due t = true

/-- Between characters from `t` on, the last one's stop bit low or high (R107). -/
def waitingFrom (t : Nat) (heldLow : Bool) : CharReceiver := .waiting { free := t, heldLow := heldLow }

/-- The attempt has ended with outcome `o`: TURNAROUND for two character times, nothing in flight. -/
def AttemptEnded (s s' : State) (t : Nat) (o : AttemptOutcome) : Prop :=
  s'.engine.state = .turnaround ∧ s'.engine.sbdir = false ∧ s'.engine.draining = false ∧ s'.engine.outcome = some o ∧
    s'.engine.turnaround = some { start := t, dur := 2 * s.engine.rate.charTime } ∧ s'.inFlight = none

/-- A failure is pending and SE drains (R114): idle limit 4, drain limit 40 character times, from now. -/
def Drains (s s' : State) (t : Nat) (k : FailureKind) (heldLow : Bool) : Prop :=
  s'.engine
    = { s.engine with receiver := waitingFrom t heldLow, outcome := some (.failed k), draining := true, gap := none,
                      drainIdle := some { start := t, dur := 4 * s.engine.rate.charTime },
                      drainLimit := some { start := t, dur := 40 * s.engine.rate.charTime } }

/-- One of the four expiries that end an attempt comes at `t`, and this is its failure (Table 6-7): the response timeout in
AWAIT, the gap inside a response, and, with the failure that draining began with, the idle limit and the drain limit. -/
def FailsAt (s : State) (c : Instr) (t : Nat) (k : FailureKind) : Prop :=
  (c = .responseTimeoutExpiry t ∧ k = .noResponse ∧ s.engine.state = .await ∧
      ∃ m, s.engine.responseTimeout = some m ∧ m.due t = true) ∨
    (c = .responseGapExpiry t ∧ k = .short ∧ s.engine.state = .receive ∧ s.engine.draining = false ∧
      ∃ m, s.engine.gap = some m ∧ m.due t = true) ∨
    (s.engine.outcome = some (.failed k) ∧ s.engine.state = .receive ∧ s.engine.draining = true ∧
      ((c = .drainIdleExpiry t ∧ ∃ m, s.engine.drainIdle = some m ∧ m.due t = true) ∨
        (c = .drainLimitExpiry t ∧ ∃ m, s.engine.drainLimit = some m ∧ m.due t = true)))

/-- The response to the transaction in flight reaches its check byte, which equals the running CRC, at `t` (R111). -/
def ChecksAt (s : State) (c : Instr) (t : Nat) : Prop :=
  s.engine.state = .receive ∧ s.engine.draining = false ∧ s.engine.position = .check ∧ s.formed t ∧
    ∃ bits, c = .responseCheckByte t bits ∧ CarriesByte bits s.engine.crc

/-- The count of consecutive failures after one more (R19). -/
def SlotRecord.failuresAfter (r : SlotRecord) : Nat := min (r.failures + 1) 15

/-- That count faults the slot (R19). -/
def State.faultsAt (s : State) (i : Slot) (failures : Nat) : Bool :=
  (decide ((s.slot i).state = .enabling) || decide ((s.slot i).state = .active))
    && decide (s.params.faultLimit ≤ failures)

/-- The record of a slot that has entered FAULTED (R26). -/
def SlotRecord.faulted (r : SlotRecord) (why : Reason) : SlotRecord :=
  { r with state := .faulted, reason := why, enable := false, powerup := none, poll := none, health := none, drain := none
           admittedBy := none, reportOwed := false }

/-- Slot `i` has entered FAULTED, its other fields those of `r`: counted, its power given back, and its SLOT_CHANGE raised,
before the notifications `behind` of the same event (R26, R69, R70, R3). -/
def EnteredFaulted (s s' : State) (i : Slot) (r : SlotRecord) (why : Reason) (summary : Option Summary)
    (behind : List Note) : Prop :=
  s'.slot i = r.faulted why ∧ s'.slotCount i .faults = satInc (s.slotCount i .faults) ∧
    Credited s s' i ∧ Raised s s' (.slotChange i (s.slot i).state .faulted why summary :: behind)

/-- The slot's stand-down has ended, confirmed or not, and its drain timer has started (R24). -/
def StandDownEnded (s s' : State) (t : Nat) (i : Slot) (r : SlotRecord) (confirmed : Bool) : Prop :=
  s'.slot i
      = { r with standDownConfirmed := confirmed, drain := some { start := t, dur := s.params.drainDelay * 1000 } } ∧
    Silent s s'

/-- The SLOT_CHANGE of the fault check, if it faults the slot (R19). -/
def State.faultNotes (s : State) (i : Slot) (failures : Nat) : List Note :=
  if s.faultsAt i failures then [.slotChange i (s.slot i).state .faulted .sidebandFault none] else []

/-- The RELAY_RESULT of a relay whose attempts are used up (R91). -/
def State.lastResult (s : State) (x : Transaction) (o : RelayOutcome) : List Note :=
  match x.work with
  | .relay ticket _ =>
    if s.params.retryLimit < x.attempts then [.relayResult ticket x.slot o x.attempts x.busy] else []
  | .identify => []
  | .status => []
  | .standDown => []

/-- Transaction `x` has ended without DONE, with `r` the record the slot then has if its owner does nothing more: a relay
with its RELAY_RESULT, behind the notifications `before`; an IDENTIFY with IDENTIFY_FAILED; a STAND_DOWN unconfirmed; a STATUS
without effect (R13, R17, R21, R24, R91, R95). -/
def EndedWithoutDone (s s' : State) (t : Nat) (x : Transaction) (o : RelayOutcome) (r : SlotRecord) (before : List Note) :
    Prop :=
  s'.transactions = s.transactions ∧
    (∀ ticket payload, x.work = .relay ticket payload →
      s'.slot x.slot = r ∧ Raised s s' (before ++ [.relayResult ticket x.slot o x.attempts x.busy])) ∧
    (x.work = .identify → (s.slot x.slot).state = .identifying →
      EnteredFaulted s s' x.slot r .identifyFailed ((s.slot x.slot).identity.map Identity.summary) []) ∧
    (x.work = .standDown → (s.slot x.slot).state = .releasing → StandDownEnded s s' t x.slot r false) ∧
    (x.work = .status → s'.slot x.slot = r ∧ (before = [] → Silent s s'))

/-- A response body is this status record: the layout of Table 11-7, bits 1 to 7 of the flags and bytes beyond the text
ignored (R178). -/
def StatusBytes (body : List Byte) (r : StatusRecord) : Prop :=
  ∃ flags f0 f1 length rest, body = r.condition.code :: flags :: f0 :: f1 :: length :: rest ∧ length.toNat ≤ 24 ∧
    length.toNat ≤ rest.length ∧ r.standDown = flags.getLsbD 0 ∧ r.faultCode = f1 ++ f0 ∧
    r.text = rest.take length.toNat

/-- A report of the status record `r` is raised for an ACTIVE slot: one is owed, or the condition differs (R21). -/
def SlotRecord.reports (r : SlotRecord) (status : StatusRecord) : Bool :=
  r.reportOwed || decide (r.lastStatus.map StatusRecord.condition ≠ some status.condition)

/-- The health timer's value at a start at `t` (R6, R20). -/
def State.healthAt (s : State) (t : Nat) : Option Timer :=
  if s.params.healthInterval = 0 then none else some { start := t, dur := s.params.healthInterval * 1000 }

/-- The list `l` after slot `i` has entered RELEASING: its queued STATUS removed, its relays kept, and a STAND_DOWN entered
(R22, R83). -/
def StandDownEntered (l l' : List Transaction) (i : Slot) : Prop :=
  Enters (l.filter fun x => ¬(x.slot = i ∧ x.work = .status)) l' i .standDown

/-- The list `l` after slot `i` has entered ACTIVE from ENABLING: a latched attention is answered with a STATUS (R20). -/
def LatchAnswered (s : State) (l' : List Transaction) (i : Slot) : Prop :=
  ((s.slot i).attentionLatched = true → Enters s.transactions l' i .status) ∧
    ((s.slot i).attentionLatched = false → l' = s.transactions)

/-- A POLL slot in ENABLING has taken the status record `r` (R17, R20, R21). -/
def StatusTakenEnabling (s s' : State) (t : Nat) (i : Slot) (r : StatusRecord) : Prop :=
  (r.condition = .starting →
    s'.slot i = { s.slot i with failures := 0, lastStatus := some r } ∧ s'.transactions = s.transactions ∧ Silent s s') ∧
    (r.condition = .failed →
      EnteredFaulted s s' i { s.slot i with failures := 0, lastStatus := some r } .moduleFailed none [] ∧
        s'.transactions = s.transactions) ∧
    (r.condition = .ready ∨ r.condition = .degraded → r.standDown = false →
      s'.slot i
          = { s.slot i with
              state := .active, reason := .ready, powerup := none, poll := none, health := s.healthAt t
              reportOwed := (s.slot i).attentionLatched || (s.slot i).reportOwed, attentionLatched := false
              failures := 0, lastStatus := some r } ∧
        LatchAnswered s s'.transactions i ∧ LeftEnabling s s' ∧ Raised s s' [.slotChange i .enabling .active .ready none]) ∧
    (r.condition = .ready ∨ r.condition = .degraded → r.standDown = true →
      s'.slot i
          = { s.slot i with
              state := .releasing, reason := .moduleRequest, powerup := none, poll := none, health := none
              reportOwed := false, attentionLatched := false, standDownConfirmed := false, failures := 0
              lastStatus := some r } ∧
        (∃ active, LatchAnswered s active i ∧ StandDownEntered active s'.transactions i) ∧ LeftEnabling s s' ∧
        Raised s s' [.slotChange i .enabling .active .ready none, .slotChange i .active .releasing .moduleRequest none])

/-- An ACTIVE slot has taken the status record `r` (R21). -/
def StatusTakenActive (s s' : State) (i : Slot) (r : StatusRecord) : Prop :=
  (r.standDown = false →
    s'.slot i = { s.slot i with reportOwed := false, failures := 0, lastStatus := some r } ∧
      s'.transactions = s.transactions ∧
      ((s.slot i).reports r = true → RaisedOnce s s' (.statusReport i r)) ∧
      ((s.slot i).reports r = false → Silent s s')) ∧
    (r.standDown = true →
      s'.slot i
          = { s.slot i with
              state := .releasing, reason := .moduleRequest, health := none, reportOwed := false
              standDownConfirmed := false, failures := 0, lastStatus := some r } ∧
        StandDownEntered s.transactions s'.transactions i ∧
        ((s.slot i).reports r = true →
          RaisedExactly s s' [.statusReport i r, .slotChange i .active .releasing .moduleRequest none]) ∧
        ((s.slot i).reports r = false → RaisedOnce s s' (.slotChange i .active .releasing .moduleRequest none)))

/-- Slot `i` has taken the well-formed status record `r` (R16, R17, R21, R27). -/
def StatusTaken (s s' : State) (t : Nat) (i : Slot) (r : StatusRecord) : Prop :=
  ((s.slot i).state = .enabling → (s.slot i).identity.map Identity.ready = some .poll →
    StatusTakenEnabling s s' t i r) ∧
    ((s.slot i).state = .active → StatusTakenActive s s' i r) ∧
    ((s.slot i).state ∈ [.parked, .faulted, .pending, .queued] ∨
        (s.slot i).state = .enabling ∧ (s.slot i).identity.map Identity.ready ≠ some .poll →
      s'.slot i = { s.slot i with failures := 0, lastStatus := some r } ∧ s'.transactions = s.transactions ∧ Silent s s')

/-- The owner of transaction `x` has taken DONE with this body (R16 to R27, R89, R95); an IDENTIFY's has a statement of its
own. -/
def DoneTaken (s s' : State) (t : Nat) (x : Transaction) (body : List Byte) : Prop :=
  (∀ ticket payload, x.work = .relay ticket payload →
    s'.slot x.slot = { s.slot x.slot with failures := 0 } ∧ s'.transactions = s.transactions ∧
      RaisedOnce s s'
        (.relayResult ticket x.slot (.done (decide (24 < body.length)) (body.take 24)) x.attempts x.busy)) ∧
    (x.work = .standDown → (s.slot x.slot).state = .releasing →
      StandDownEnded s s' t x.slot { s.slot x.slot with failures := 0 } true ∧ s'.transactions = s.transactions) ∧
    (x.work = .status → ∀ r, StatusBytes body r → StatusTaken s s' t x.slot r) ∧
    (x.work = .status → (∀ r, ¬StatusBytes body r) →
      s'.transactions = s.transactions ∧
        (s.faultsAt x.slot (s.slot x.slot).failuresAfter = true →
          EnteredFaulted s s' x.slot { s.slot x.slot with failures := (s.slot x.slot).failuresAfter } .sidebandFault
            none []) ∧
        (s.faultsAt x.slot (s.slot x.slot).failuresAfter = false →
          s'.slot x.slot = { s.slot x.slot with failures := (s.slot x.slot).failuresAfter } ∧ Silent s s'))

/-- The outcome of a marked attempt has been dropped whole (R92, R117). -/
def OutcomeDropped (s s' : State) : Prop :=
  s'.slots = s.slots ∧ s'.slotCounters = s.slotCounters ∧ s'.partCounters = s.partCounters ∧ PowerKept s s' ∧
    s'.transactions = s.transactions ∧ Silent s s'

/-- The slots `queue` wait in this order, and a run of them from the head was granted by the examination at the end of the
event: each qualified at its turn, the next one does not (R14, R65, R66). -/
def Examined (s s' : State) (queue : List Slot) (budget stagger : Nat) : Prop :=
  ∃ granted waiting, queue = granted ++ waiting ∧ s'.admissionQueue = waiting ∧
    (∀ i ∈ granted,
      s'.slot i = { s'.granted (s.slot i) with state := .enabling, reason := .enableGranted }) ∧
    (∀ i ∈ waiting, s'.slot i = s.slot i) ∧
    s'.committed = s.committed + (granted.map fun i => (s.slot i).units).sum ∧
    s'.enablingCount = s.enablingCount + granted.length ∧
    (∀ first i later, granted = first ++ i :: later →
      s.committed + ((first ++ [i]).map fun j => (s.slot j).units).sum ≤ budget ∧
        s.enablingCount + first.length < stagger) ∧
    ∀ i ∈ waiting.head?, ¬(s'.committed + (s.slot i).units ≤ budget ∧ s'.enablingCount < stagger)

/-- A beacon frame of record `k` has started with `rest` left on the due list (R118, R130). -/
def BeaconStarted (s s' : State) (t : Nat) (number : Half) (k : Fin 8) (rest : List (Fin 8)) : Prop :=
  s'.engine.state = .beacon ∧ s'.engine.sbdir = true ∧ s'.engine.rate = s.params.sbRate ∧
    s'.engine.frame = (busFrame 0 0x05 (halfBytes number ++ (s.beacon k).payload)).map busCharacter ∧
    s'.engine.wire = some { start := t, dur := (6 + (s.beacon k).payload.length) * s.params.sbRate.charTime } ∧
    s'.cycle.due = rest ∧ s'.cycle.window = .opened ∧
    s'.beacon k = (if (s.beacon k).state = .once then { s.beacon k with state := .idle } else s.beacon k) ∧
    (∀ j : Fin 8, j ≠ k → s'.beacon j = s.beacon j) ∧ s'.partCount .beaconsSent = satInc (s.partCount .beaconsSent)

/-- A cycle with this number has started at `t` (R122, R126, R127, R129): the records left of the old one are skipped, period
and guard are taken, the due list is formed, and the window opens with a beacon frame, waits, or is absent. -/
def CycleStarted (s s' : State) (t : Nat) (number : Half) : Prop :=
  s'.cycle.number = number ∧ s'.cycle.start = t ∧ s'.cycle.period = s.params.cyclePeriod * 500 ∧
    s'.cycle.guardTime = s.params.quietGuard * 100 ∧
    (s'.partCount .beaconsSkipped).toNat = saturated (s.partCount .beaconsSkipped) s.cycle.due.length ∧
    ((List.finRange 8).filter (fun k => (s.beacon k).due number) = [] →
      s'.cycle.window = .none ∧ s'.cycle.due = [] ∧ s'.engine = s.engine ∧ s'.beacons = s.beacons ∧
        s'.partCount .beaconsSent = s.partCount .beaconsSent ∧ s'.partCount .beaconsLate = s.partCount .beaconsLate) ∧
    (∀ k rest, (List.finRange 8).filter (fun k => (s.beacon k).due number) = k :: rest →
      (s.engine.state = .idle →
        BeaconStarted s s' t number k rest ∧ s'.partCount .beaconsLate = s.partCount .beaconsLate) ∧
        (s.engine.state ≠ .idle →
          s'.cycle.window = .waiting ∧ s'.cycle.due = k :: rest ∧ s'.engine = s.engine ∧ s'.beacons = s.beacons ∧
            s'.partCount .beaconsSent = s.partCount .beaconsSent ∧
            s'.partCount .beaconsLate
              = if s.engine.state = .await ∨ s.engine.state = .receive then satInc (s.partCount .beaconsLate)
                else s.partCount .beaconsLate)) ∧
    ∀ d : PartCounter, d ∉ [.beaconsSent, .beaconsLate, .beaconsSkipped] → s'.partCount d = s.partCount d

/-- What both kinds of cold reset leave in every block (R2, R52, R62, R80, R120, R124, R125, R148, R165, R167, R171). -/
def ColdValues (s : State) : Prop :=
  (∀ i : Slot,
    s.slot i
      = { state := .unknown, reason := .firstSeen, identity := none, admittedBy := none, attentionLatched := false,
          reportOwed := false, failures := 0, lastStatus := none, standDownConfirmed := false, powerup := none,
          poll := none, health := none, drain := none, enable := false }) ∧
    (∀ k : Fin 16,
      s.entry k
        = { valid := false, vendorMatch := .any, vendor := 0, classMatch := .any, cls := 0, minRevision := 0
            action := .hold }) ∧
    (s.committed = 0 ∧ s.enablingCount = 0 ∧ s.admissionQueue = []) ∧
    (s.transactions = [] ∧ s.inFlight = none ∧ s.nextTicket = 1) ∧
    (s.engine.state = .idle ∧ s.engine.sbdir = false ∧ s.engine.outcome = none ∧ s.engine.draining = false ∧
      s.engine.receiver = waitingFrom s.now false) ∧
    (s.cycle.number = 0 ∧ s.cycle.period = 10000 ∧ s.cycle.guardTime = 2000 ∧ s.cycle.window = .none ∧
    s.cycle.due = []) ∧
    (∀ k : Fin 8, s.beacon k = { state := .idle, interval := 1, phase := 0, payload := [0] }) ∧
    (s.notes = [{ seq := 0, note := .restarted .cold, sent := false }] ∧ s.nextSeq = 1 ∧ s.resendTimer = none) ∧
    (s.tx = none ∧ s.hrxd = { free := s.now, heldLow := false } ∧ s.rx = .hunt ∧ s.rxGap = none ∧ s.intake = none ∧
    s.cache = none ∧ s.restartPending = none) ∧
    s.params
      = { lineGlitch := 20, lineAttnLimit := 20, lineSettle := 50, budgetLimit := 0, staggerLimit := 1,
          powerupTimeout := 500, pollInterval := 20, healthInterval := 0, drainDelay := 100, faultLimit := 3,
          retryLimit := 2, sbRate := .r250, sbResponseTimeout := 10, cyclePeriod := 20, quietGuard := 20, noteWindow := 4,
          noteResend := 200 } ∧
    (∀ c : PartCounter, s.partCount c = 0) ∧ ∀ (i : Slot) (c : SlotCounter), s.slotCount i c = 0

/-- The part runs from a cold reset at `t`: every line settles with S = 50 ms from its first sample, cycle 0 begins, and when
the clock leaves `t` the frame of RESTARTED(COLD) has started at `t`, unless a reply was ready then (R34, R124, R148, R160,
R165). -/
def ColdRun (s : State) (t : Nat) (levels : Vector Bool 24) : Prop :=
  s.now = t ∧ s.resetN = true ∧ s.spres = levels ∧ s.edges = Vector.replicate 24 t ∧
    (∀ i : Slot, s.classifier i = .init (some (levels[i], { start := t, settle := 50 }))) ∧ s.cycle.start = t ∧
    ∀ later, t < later →
      (s.elapse later).tx
          = some { chars := (hostFrame 0x45 0 [0, 0, 2]).map hostCharacter
                   timer := { start := t, dur := s.hostRate.time 9 } } ∧
        (s.elapse later).notes.map NoteEntry.sent = [true] ∧
        (s.elapse later).resendTimer = some { start := t, dur := 200000 }

end Sys2Proof.Machine
end

