-- ==== Sys2Proof/Certificates/Slice0/Obligations.lean ====
section
/-! DEFINITION. The statements for the provers. Each answers for every state and operand that meets its hypotheses; `s'` is
the next state. Model choices that many of them share: an event carries its instant (log 1); `m.due t` holds from the
accuracy of 00 section 0.7 before the deadline on (logs 3, 4); a request's command is the completion of its frame (log 9), and
`t.stop` is that instant; a notification's frame that starts from an idle transmitter is on HTXD once the clock has left its
instant, which `s.elapse` says (log 20); a host link frame's time is in whole us (log 15); a line shows one edge a tick at most
(log 31). -/

open Sys2Proof Sys2Proof.Machine

/-! ### The step -/

/-- A step runs the command at the front of the queue on the queue's rest; an empty queue idles (the model's choice, log
7). -/
def Obligations.StepRunsTheFrontCommand : Prop :=
  (∀ (c : Instr) (s : State), step { s with pending := c :: s.pending } = exec c s) ∧
    ∀ s : State, s.pending = [] → step s = .next s

/-- Every command answers a next state (the model's choice: one that cannot happen changes nothing, log 2), with the queue of
commands as it was; time does not run back, and a command that changes anything moves it to the instant of its event (log
1). While RESET_N is low no event but its rise is taken (00 section 0.6, note 3). No edge
is seen on a presence line in the tick whose sample first read its present level (R32). -/
def Obligations.CommandsKeepQueueAndTime : Prop :=
  (∀ (c : Instr) (s : State), ∃ s', exec c s = .next s' ∧ s'.pending = s.pending ∧ s.now ≤ s'.now ∧
      (s' = s ∨ s'.now = c.instant)) ∧
    (∀ (c : Instr) (s : State), s.resetN = false → (∀ t r1 r0 levels, c ≠ .resetNRise t r1 r0 levels) →
      exec c s = .next s) ∧
    ∀ (c : Instr) (s : State) (t : Nat) (i : Slot), t ≤ s.edges[i] →
      c = .presenceEdgeInInit t i ∨ c = .risingEdgeInLow t i ∨ c = .bounce t i ∨ c = .fallingEdgeInHigh t i ∨
        (∃ measured, c = .risingEdgeInFallMeasuring t i measured) →
      exec c s = .next s

/-! ### Reset -/

/-- A fall of RESET_N returns every block to its cold values, cuts off the frames on both links, and samples nothing: the
lines' levels stay as last seen (the model's choice, log 13). Both character receivers wait for a falling edge from the reset
on (the model's reading, log 33). -/
def Obligations.ColdResetHoldsColdValues : Prop :=
  ∀ (s : State) (t : Nat), s.takes t →
    ∃ s', exec (.coldReset t) s = .next s' ∧ s'.now = t ∧ s'.resetN = false ∧ ColdValues s' ∧
      (∀ i : Slot, s'.classifier i = .init none) ∧ s'.hostRate = s.hostRate ∧ s'.spres = s.spres ∧ s'.pending = s.pending

/-- The rise of RESET_N keeps the strap rate and starts the part from its cold values (both character receivers from that
instant on, log 33). -/
def Obligations.ResetNRiseStartsThePart : Prop :=
  ∀ (s : State) (t : Nat) (rate1 rate0 : Bool) (levels : Vector Bool 24), s.resetN = false → s.now ≤ t →
    ∃ s', exec (.resetNRise t rate1 rate0 levels) s = .next s' ∧ ColdValues s' ∧ ColdRun s' t levels ∧
      s'.hostRate.baud
        = (if rate1 then if rate0 then 921600 else 460800 else if rate0 then 230400 else 115200) ∧
      s'.pending = s.pending

/-- The state right after reset holds the cold values, has no command waiting, and obeys every law of the part. Its instant
and its inputs are the model's choice (log 8; the engine record, logs 21 and 33). -/
def Obligations.ResetIsColdAndLawful : Prop :=
  ColdValues State.reset ∧ ColdRun State.reset 0 (Vector.replicate 24 false) ∧ Lawful State.reset ∧ State.reset.pending = []

/-! ### Presence lines -/

/-- An edge in INIT restarts the settle measurement with the new level and a fresh snapshot, and nothing else (R35). -/
def Obligations.EdgeInInitRestartsSettling : Prop :=
  ∀ (s : State) (t : Nat) (i : Slot) (level : Bool) (m : Settle), s.takes t → s.edges[i] < t →
    s.classifier i = .init (some (level, m)) →
    ∃ s', exec (.presenceEdgeInInit t i) s = .next s' ∧
      ClassifierBecomes s s' i (.init (some (!level, { start := t, settle := s.params.lineSettle }))) ∧
      Sampled s s' t i (!level) ∧ SameSlots s s' ∧ Silent s s' ∧
      TablesKept s s' ∧ BusKept s s' ∧ ReceiverKept s s' ∧ TransmitterKept s s'

/-- The settle deadline in INIT moves the classifier by the level held and hands over the first evaluation (R35, R7). Its
SLOT_CHANGE is stored, or lost with a LOSS marker while the list holds 63 or 64 entries (R138, R139). -/
def Obligations.SettleDeadlineIsFirstEvaluation : Prop :=
  ∀ (s : State) (t : Nat) (i : Slot) (level : Bool) (m : Settle), s.takes t →
    s.classifier i = .init (some (level, m)) → m.due t = true → (s.slot i).state = .unknown →
    ∃ s', exec (.settleDeadlineInInit t i) s = .next s' ∧
      ClassifierBecomes s s' i (if level then .high else .low) ∧
      (level = true → EnteredIdentifying s s' i .firstSeen s.transactions ∧ Counted s s' i .arrivals ∧
        RaisedOnce s s' (.slotChange i .unknown .identifying .firstSeen none)) ∧
      (level = false → s'.slot i = { s.slot i with state := .vacant, reason := .firstSeen } ∧
        s'.slotCounters = s.slotCounters ∧ s'.transactions = s.transactions ∧
        RaisedOnce s s' (.slotChange i .unknown .vacant .firstSeen none)) ∧
      SamplesKept s s' ∧ PowerKept s s' ∧ s'.inFlight = s.inFlight ∧ PartKept s s' ∧ OtherSlotsKept s s' i ∧ TablesKept s s' ∧
      BusKept s s' ∧ ReceiverKept s s' ∧ TransmitterKept s s'

/-- A rising edge in LOW starts settling with a snapshot of LINE_SETTLE and hands nothing to the slot, which keeps its state.
No falling edge is seen in LOW (R36). -/
def Obligations.RisingEdgeInLowStartsSettling : Prop :=
  ∀ (s : State) (t : Nat) (i : Slot), s.takes t → s.edges[i] < t → s.classifier i = .low →
    ∃ s', exec (.risingEdgeInLow t i) s = .next s' ∧
      ClassifierBecomes s s' i (.riseSettling { start := t, settle := s.params.lineSettle }) ∧
      Sampled s s' t i true ∧ SameSlots s s' ∧
      Silent s s' ∧ TablesKept s s' ∧ BusKept s s' ∧ ReceiverKept s s' ∧ TransmitterKept s s' ∧
      exec (.fallingEdgeInHigh t i) s = .next s ∧ exec (.bounce t i) s = .next s

/-- A falling edge in RISE_SETTLING is a bounce: LOW, counted, and no event for the slot (R37, R46). -/
def Obligations.FallInRiseSettlingIsBounce : Prop :=
  ∀ (s : State) (t : Nat) (i : Slot) (m : Settle), s.takes t → s.edges[i] < t →
    s.classifier i = .riseSettling m →
    ∃ s', exec (.bounce t i) s = .next s' ∧ ClassifierBecomes s s' i .low ∧ Counted s s' i .bounces ∧
      Sampled s s' t i false ∧ s'.slots = s.slots ∧ QueuesKept s s' ∧ s'.partCounters = s.partCounters ∧ Silent s s' ∧
      TablesKept s s' ∧
      BusKept s s' ∧ ReceiverKept s s' ∧ TransmitterKept s s'

/-- The settle deadline in RISE_SETTLING is an ARRIVAL with its entry actions (R37, R8). -/
def Obligations.RiseSettleDeadlineIsArrival : Prop :=
  ∀ (s : State) (t : Nat) (i : Slot) (m : Settle), s.takes t → s.classifier i = .riseSettling m → m.due t = true →
    (s.slot i).state = .vacant →
    ∃ s', exec (.riseSettleDeadline t i) s = .next s' ∧ ClassifierBecomes s s' i .high ∧
      EnteredIdentifying s s' i .lineArrival s.transactions ∧ Counted s s' i .arrivals ∧
      RaisedOnce s s' (.slotChange i .vacant .identifying .lineArrival none) ∧ SamplesKept s s' ∧ PowerKept s s' ∧
      s'.inFlight = s.inFlight ∧
      PartKept s s' ∧ OtherSlotsKept s s' i ∧ TablesKept s s' ∧
      BusKept s s' ∧ ReceiverKept s s' ∧ TransmitterKept s s'

/-- A falling edge in HIGH starts a low-time measurement with snapshots of G and A and touches nothing else; its deadline,
the start plus its snapshot A in us, lies A after the fall (R38). -/
def Obligations.FallInHighStartsLowTime : Prop :=
  ∀ (s : State) (t : Nat) (i : Slot), s.takes t → s.edges[i] < t → s.classifier i = .high →
    ∃ s' m, exec (.fallingEdgeInHigh t i) s = .next s' ∧ ClassifierBecomes s s' i (.fallMeasuring m) ∧
      m = { start := t, glitch := s.params.lineGlitch, attn := s.params.lineAttnLimit } ∧
      m.start + m.attn * 100 = t + s.params.lineAttnLimit * 100 ∧
      Sampled s s' t i false ∧ SameSlots s s' ∧ Silent s s' ∧ TablesKept s s' ∧ BusKept s s' ∧ ReceiverKept s s' ∧
      TransmitterKept s s'

/-- A rising edge classifies the low pulse by its measured length: glitch, attention, or departure followed by settling
(Table 2-4, R40); a departure at the edge raises its SLOT_CHANGE and then the results of the slot's relays (R9, R96). -/
def Obligations.LowPulseIsClassifiedByLength : Prop :=
  ∀ (s : State) (t : Nat) (i : Slot) (m : LowTime) (measured : Nat), s.takes t → s.edges[i] < t → QueueLaw s →
    s.classifier i = .fallMeasuring m → m.measures t measured = true →
    ∃ s', exec (.risingEdgeInFallMeasuring t i measured) s = .next s' ∧
      (measured < m.glitch → ClassifierBecomes s s' i .high ∧ Counted s s' i .glitches ∧ s'.slots = s.slots ∧
        QueuesKept s s' ∧ Silent s s') ∧
      (m.glitch ≤ measured → measured < m.attn * 100 → ClassifierBecomes s s' i .high ∧ Counted s s' i .attentions) ∧
      (m.glitch ≤ measured → m.attn * 100 ≤ measured →
        ClassifierBecomes s s' i (.riseSettling { start := t, settle := s.params.lineSettle }) ∧
          Counted s s' i .departures ∧ Departed s s' i ∧ Credited s s' i ∧
          Raised s s' (.slotChange i (s.slot i).state .vacant .lineDeparture none :: s.cancelResults i)) ∧
      Sampled s s' t i true ∧ PartKept s s' ∧ OtherWorkKept s s' i ∧ OtherSlotsKept s s' i ∧ TablesKept s s' ∧
      BusKept s s' ∧ ReceiverKept s s' ∧ TransmitterKept s s'

/-- ATTENTION acts by the slot's state (Table 1-5, R16). An ATTENTION notification is stored, or lost: NOTES_LOST rises, and
the LOSS marker at the tail takes the count or a new one is stored as the 64th entry (R138 to R140). -/
def Obligations.AttentionActsByState : Prop :=
  ∀ (s : State) (t : Nat) (i : Slot) (m : LowTime) (measured : Nat), s.takes t → s.edges[i] < t → QueueLaw s →
    s.classifier i = .fallMeasuring m → m.measures t measured = true → m.glitch ≤ measured → measured < m.attn * 100 →
    ∃ s', exec (.risingEdgeInFallMeasuring t i measured) s = .next s' ∧ s'.inFlight = s.inFlight ∧
      ((s.slot i).state = .enabling ∨ PowerKept s s') ∧
      ((s.slot i).state = .pending ∨ (s.slot i).state = .queued ∨ (s.slot i).state = .parked ∨ (s.slot i).state = .faulted →
        s'.slot i = { s.slot i with attentionLatched := true } ∧ s'.transactions = s.transactions ∧
          RaisedOnce s s' (.attention i)) ∧
      ((s.slot i).state = .identifying ∨ (s.slot i).state = .releasing →
        s'.slot i = s.slot i ∧ s'.transactions = s.transactions ∧ Silent s s') ∧
      ((s.slot i).state = .enabling → (s.slot i).identity.map Identity.ready = some .poll →
        s'.slot i = { s.slot i with attentionLatched := true } ∧ s'.transactions = s.transactions ∧
          Silent s s') ∧
      ((s.slot i).state = .enabling → (s.slot i).identity.map Identity.ready = some .pulse →
        (s'.slot i).state = .active ∧ (s'.slot i).reason = .ready ∧ (s'.slot i).powerup = none ∧
          (s'.slot i).poll = none ∧ (s'.slot i).attentionLatched = false ∧ (s'.slot i).enable = (s.slot i).enable ∧
          (s'.slot i).health
            = (if s.params.healthInterval = 0 then none
              else some { start := t, dur := s.params.healthInterval * 1000 }) ∧
          ((s.slot i).attentionLatched = true → (s'.slot i).reportOwed = true) ∧ LatchAnswered s s'.transactions i ∧
          LeftEnabling s s' ∧ Raised s s' [.slotChange i .enabling .active .ready none]) ∧
      ((s.slot i).state = .active →
        s'.slot i = { s.slot i with reportOwed := true } ∧ Enters s.transactions s'.transactions i .status ∧ Silent s s')

/-- A low time that reaches A is a DEPARTURE (R40, R9): the slot's SLOT_CHANGE and then the results of its relays are raised
(R96). With no slot waiting, the units of a powered slot are credited and nothing is granted. -/
def Obligations.LowTimeDeadlineIsDeparture : Prop :=
  ∀ (s : State) (t : Nat) (i : Slot) (m : LowTime), s.takes t → QueueLaw s → s.classifier i = .fallMeasuring m →
    m.due t = true →
    ∃ s', exec (.lowTimeDeadline t i) s = .next s' ∧ ClassifierBecomes s s' i .low ∧ Counted s s' i .departures ∧
      Departed s s' i ∧ Raised s s' (.slotChange i (s.slot i).state .vacant .lineDeparture none :: s.cancelResults i) ∧
      Credited s s' i ∧ SamplesKept s s' ∧ PartKept s s' ∧ OtherWorkKept s s' i ∧ OtherSlotsKept s s' i ∧
      TablesKept s s' ∧ BusKept s s' ∧
      ReceiverKept s s' ∧ TransmitterKept s s'

/-! ### Slot timers -/

/-- The power-up deadline faults a slot in ENABLING and withdraws its power (R18, R26). -/
def Obligations.PowerupDeadlineFaults : Prop :=
  ∀ (s : State) (t : Nat) (i : Slot) (m : Timer), s.takes t → QueueLaw s → (s.slot i).state = .enabling →
    (s.slot i).powerup = some m → m.due t = true →
    ∃ s', exec (.powerupDeadlineExpiry t i) s = .next s' ∧
      s'.slot i
        = { s.slot i with state := .faulted, reason := .enableTimeout, enable := false, powerup := none, poll := none,
                          health := none, drain := none, admittedBy := none, reportOwed := false } ∧
      Counted s s' i .faults ∧ Credited s s' i ∧ Raised s s' [.slotChange i .enabling .faulted .enableTimeout none] ∧
      s'.transactions = s.transactions ∧ s'.inFlight = s.inFlight ∧ PartKept s s' ∧ OtherSlotsKept s s' i ∧
      TablesKept s s' ∧
      BusKept s s' ∧ ReceiverKept s s' ∧ TransmitterKept s s' ∧ LinesKept s s'

/-- The poll timer in ENABLING and the health timer in ACTIVE each enter a STATUS at the tail, unless one is queued, and
repeat with the value then in force; the health timer stops if that is 0. Neither changes the slot's state or raises a
notification (R6, R81). -/
def Obligations.PollAndHealthTimersRepeat : Prop :=
  ∀ (s : State) (t : Nat) (i : Slot) (m : Timer), s.takes t → m.due t = true →
    ((s.slot i).state = .enabling → (s.slot i).poll = some m →
      ∃ s', exec (.pollTimerExpiry t i) s = .next s' ∧
        s'.slot i = { s.slot i with poll := some { start := t, dur := s.params.pollInterval * 1000 } } ∧
        Enters s.transactions s'.transactions i .status ∧ Silent s s' ∧ PowerKept s s' ∧ s'.inFlight = s.inFlight ∧
        s'.partCounters = s.partCounters ∧ OtherSlotsKept s s' i ∧ s'.slotCounters = s.slotCounters ∧ TablesKept s s' ∧
        BusKept s s' ∧ ReceiverKept s s' ∧ TransmitterKept s s' ∧ LinesKept s s') ∧
      ((s.slot i).state = .active → (s.slot i).health = some m →
        ∃ s', exec (.healthTimerExpiry t i) s = .next s' ∧
          s'.slot i
            = { s.slot i with
                health := if s.params.healthInterval = 0 then none
                          else some { start := t, dur := s.params.healthInterval * 1000 } } ∧
          Enters s.transactions s'.transactions i .status ∧ Silent s s' ∧ PowerKept s s' ∧ s'.inFlight = s.inFlight ∧
          s'.partCounters = s.partCounters ∧ OtherSlotsKept s s' i ∧ s'.slotCounters = s.slotCounters ∧ TablesKept s s' ∧
          BusKept s s' ∧ ReceiverKept s s' ∧ TransmitterKept s s' ∧ LinesKept s s')

/-- The drain timer parks a slot in RELEASING, confirmed or not, and withdraws its power (R25, R26). -/
def Obligations.DrainTimerParks : Prop :=
  ∀ (s : State) (t : Nat) (i : Slot) (m : Timer) (why : Reason), s.takes t → QueueLaw s →
    (s.slot i).state = .releasing → (s.slot i).drain = some m → m.due t = true →
    why = (if (s.slot i).standDownConfirmed then .standDownConfirmed else .standDownUnconfirmed) →
    ∃ s', exec (.drainTimerExpiry t i) s = .next s' ∧
      s'.slot i
        = { s.slot i with state := .parked, reason := why, enable := false, powerup := none, poll := none,
                          health := none, drain := none, admittedBy := none } ∧
      Raised s s' [.slotChange i .releasing .parked why none] ∧
      Credited s s' i ∧ s'.slotCounters = s.slotCounters ∧ s'.transactions = s.transactions ∧
      s'.inFlight = s.inFlight ∧ PartKept s s' ∧
      OtherSlotsKept s s' i ∧ TablesKept s s' ∧
      BusKept s s' ∧ ReceiverKept s s' ∧ TransmitterKept s s' ∧ LinesKept s s'

/-! ### The sideband engine -/

/-- With the engine in IDLE, the list not empty, no window and the quiet point ahead, an attempt starts with the head of the
list, its request sent as characters of eleven bits (R84, R99, R104, R105). At the very instant of the quiet point it starts
if that was not taken first (log 6). The instant is compared with the nominal quiet point exactly (the model's choice, log
29), and a character in progress when SBDIR rises is lost (the model's reading, log 32). -/
def Obligations.AttemptStartTakesTheHead : Prop :=
  ∀ (s : State) (t : Nat) (x : Transaction) (rest : List Transaction), s.takes t → s.engine.state = .idle →
    s.transactions = x :: rest → s.cycle.window = .none →
    t < s.cycle.quiet ∨ t = s.cycle.quiet ∧ s.cycle.quietTaken = false →
    ∃ s', exec (.attemptStart t) s = .next s' ∧ s'.transactions = rest ∧
      s'.inFlight = some { tx := x, discard := false } ∧ s'.engine.state = .request ∧ s'.engine.sbdir = true ∧
      s'.engine.rate = s.params.sbRate ∧ s'.engine.timeout = s.params.sbResponseTimeout ∧ s'.engine.outcome = none ∧
      s'.engine.frame = (busFrame (slotByte x.slot) x.work.code x.work.payload).map busCharacter ∧
      (∀ b : Byte, CarriesByte (busCharacter b) b) ∧ s'.engine.receiver = waitingFrom t false ∧
      s'.engine.wire
        = some { start := t, dur := (4 + x.work.payload.length) * s.params.sbRate.charTime } ∧
      PartCounted s s' .sbAttempts ∧ PowerKept s s' ∧ s'.slots = s.slots ∧ s'.slotCounters = s.slotCounters ∧
      Silent s s' ∧
      s'.cycle = s.cycle ∧ s'.beacons = s.beacons ∧ TablesKept s s' ∧ ReceiverKept s s' ∧ TransmitterKept s s' ∧
      LinesKept s s'

/-- No attempt or beacon frame starts after the quiet point of the current cycle (R98, R104, R128). At the very instant of
the quiet point the order of the two events decides (log 6). The quiet point is the nominal one, compared exactly (the model's
choice, log 29). -/
def Obligations.FramesStartBeforeTheQuietPoint : Prop :=
  ∀ (c : Instr) (s s' : State), ParamLaw s → exec c s = .next s' → s.engine.state.drives = false →
    s'.engine.state.drives = true → s'.now ≤ s'.cycle.quiet

/-- The last stop bit of a request starts the response timeout with its snapshot; that of a beacon frame starts the
turnaround. SBDIR falls at both (R98, R105, R118), and the character receiver waits from then on (log 32). -/
def Obligations.FrameEndReleasesTheLine : Prop :=
  ∀ (s : State) (t : Nat) (m : Timer), s.takes t → s.engine.wire = some m → m.due t = true →
    (s.engine.state = .request →
      ∃ s', exec (.requestSent t) s = .next s' ∧ s'.engine.state = .await ∧ s'.engine.sbdir = false ∧
        s'.engine.responseTimeout = some { start := t, dur := s.engine.timeout * 100 } ∧
        s'.engine.rate = s.engine.rate ∧ s'.engine.receiver = waitingFrom t false ∧ EngineAlone s s') ∧
      (s.engine.state = .beacon →
        ∃ s', exec (.beaconFrameEnd t) s = .next s' ∧ s'.engine.state = .turnaround ∧ s'.engine.sbdir = false ∧
          s'.engine.turnaround = some { start := t, dur := 2 * s.engine.rate.charTime } ∧
          s'.engine.responseTimeout = none ∧ s'.engine.receiver = waitingFrom t false ∧ EngineAlone s s')

/-- A start bit is valid half a bit time after a falling edge that comes with SBDIR low, between two characters, after a low
stop bit only once the line has been high, and before the limit of the wait (R107). In AWAIT it begins the response, and
inside a response it ends the gap measurement (R106, R110); while draining it ends the idle measurement (the model's choice,
log 12); elsewhere SE ignores it (R116), and the character is timed with the last rate snapshot, of which the spec says
nothing (log 11). Half a bit time and ten and a half bit times are rounded down to whole us (log 11). Within a character, or
from a line held low, no character begins (R107). -/
def Obligations.StartBitBeginsOrContinuesTheResponse : Prop :=
  ∀ (s : State) (c : Span) (w : EdgeWait) (m : Timer), s.takes c.stop →
    (s.engine.receiver = .inCharacter m ∨ (s.engine.receiver = .waiting w ∧ w.heldLow = true ∧ c.start ≤ w.free) →
      exec (.responseStartBit c) s = .next s) ∧
      (s.engine.sbdir = false → s.engine.receiver = .waiting w →
        (if w.heldLow = true then w.free < c.start else w.free ≤ c.start) →
        (∀ limit : Timer,
          limit ∈ s.engine.responseTimeout ∨ limit ∈ s.engine.gap ∨ limit ∈ s.engine.drainIdle →
          c.start ≤ limit.start + limit.dur) →
        c.stop = c.start + s.engine.rate.bitTime / 2 →
        m = { start := c.start, dur := 21 * s.engine.rate.bitTime / 2 } →
        ∃ s', exec (.responseStartBit c) s = .next s' ∧
          (s.engine.state = .await →
            s'.engine
              = { s.engine with receiver := .inCharacter m, state := .receive, responseTimeout := none
                                position := .address, crc := 0, rxLength := 0, rxPayload := [], draining := false }) ∧
          (s.engine.state = .receive →
            s'.engine = { s.engine with receiver := .inCharacter m, gap := none, drainIdle := none }) ∧
          (s.engine.state ≠ .await → s.engine.state ≠ .receive →
            s'.engine = { s.engine with receiver := .inCharacter m }) ∧
          EngineAlone s s')

/-- A good character before the check byte is taken as the field at the receive position: the position advances, the byte
enters the running CRC, the gap measurement starts. While draining a good character only restarts the idle measurement, and
outside a response SE ignores it (R99, R107, Table 6-6, R108, R110, R114, R116). -/
def Obligations.GoodCharacterIsTakenAsField : Prop :=
  ∀ (s : State) (t : Nat) (bits : BusBits) (b : Byte) (gap : Option Timer) (free : CharReceiver), s.takes t → s.formed t →
    CarriesByte bits b → gap = some { start := t, dur := 4 * s.engine.rate.charTime } → free = waitingFrom t false →
    (s.engine.state ≠ .receive →
      ∃ s', exec (.responseCharacter t bits) s = .next s' ∧ s'.engine = { s.engine with receiver := free } ∧
        EngineAlone s s') ∧
      (s.engine.state = .receive → s.engine.draining = true →
        ∃ s', exec (.responseCharacter t bits) s = .next s' ∧
          s'.engine = { s.engine with receiver := free, drainIdle := gap } ∧ EngineAlone s s') ∧
      (∀ f : InFlight, s.engine.state = .receive → s.engine.draining = false → s.inFlight = some f →
        (s.engine.position = .address → b = slotByte f.tx.slot ||| 0x80 →
          ∃ s', exec (.responseCharacter t bits) s = .next s' ∧
            s'.engine
              = { s.engine with receiver := free, crc := crc8Byte s.engine.crc b, position := .operation, gap := gap } ∧
            EngineAlone s s') ∧
          (s.engine.position = .operation → b = f.tx.work.code →
            ∃ s', exec (.responseCharacter t bits) s = .next s' ∧
              s'.engine
                = { s.engine with receiver := free, crc := crc8Byte s.engine.crc b, position := .length, gap := gap } ∧
              EngineAlone s s') ∧
          (s.engine.position = .length → b.toNat ≤ 32 →
            ∃ s', exec (.responseCharacter t bits) s = .next s' ∧
              s'.engine
                = { s.engine with receiver := free, crc := crc8Byte s.engine.crc b, rxLength := b.toNat, rxPayload := []
                                  gap := gap, position := if b.toNat = 0 then .check else .payload } ∧
              EngineAlone s s') ∧
          (s.engine.position = .payload →
            ∃ s', exec (.responseCharacter t bits) s = .next s' ∧
              s'.engine
                = { s.engine with receiver := free, crc := crc8Byte s.engine.crc b
                                  rxPayload := s.engine.rxPayload ++ [b], gap := gap
                                  position := if s.engine.rxPayload.length + 1 < s.engine.rxLength then .payload
                                              else .check } ∧
              EngineAlone s s'))

/-- Inside a response a character with a low stop bit is a framing error, one with a high stop bit and an even number of ones
a parity error; either, or a good character that fails the check of its field, sets its failure pending and begins draining
(R99, R107, Table 6-6, R109, R114). While draining a bad character restarts the idle measurement, and outside a response SE
ignores it (R114, R116). After a low stop bit the receiver waits for the line to be high (R107), but the idle measurement
runs from the character's end although the line was left low (the model's choice, log 28). -/
def Obligations.ErrorBeginsDraining : Prop :=
  ∀ (s : State) (t : Nat) (bits : BusBits) (low : Bool), s.takes t → s.formed t → bits.getLsbD 0 = false →
    low = !bits.getLsbD 10 →
    (∀ (f : InFlight) (k : FailureKind), s.engine.state = .receive → s.engine.draining = false → s.inFlight = some f →
      (low = true ∧ k = .framing) ∨
        (low = false ∧ ((List.range 9).countP fun n => bits.getLsbD (n + 1)) % 2 = 0 ∧ k = .parity) ∨
        (∃ b, CarriesByte bits b ∧ k = .mismatch ∧
          (s.engine.position = .address ∧ b ≠ slotByte f.tx.slot ||| 0x80 ∨
            s.engine.position = .operation ∧ b ≠ f.tx.work.code)) ∨
        (∃ b, CarriesByte bits b ∧ k = .overlength ∧ s.engine.position = .length ∧ 32 < b.toNat) →
      ∃ s', exec (.responseError t bits) s = .next s' ∧ Drains s s' t k low ∧ EngineAlone s s') ∧
      (low = true ∨ ((List.range 9).countP fun n => bits.getLsbD (n + 1)) % 2 = 0 →
        (s.engine.state = .receive → s.engine.draining = true →
          ∃ s', exec (.responseError t bits) s = .next s' ∧
            s'.engine
              = { s.engine with receiver := waitingFrom t low
                                drainIdle := some { start := t, dur := 4 * s.engine.rate.charTime } } ∧
            EngineAlone s s') ∧
          (s.engine.state ≠ .receive →
            ∃ s', exec (.responseError t bits) s = .next s' ∧
              s'.engine = { s.engine with receiver := waitingFrom t low } ∧ EngineAlone s s'))

/-- The check byte: a different CRC is CHECK, no known result is MISMATCH, and a well-formed response ends the attempt with
its result (R111, R113, R115). What DONE and UNSUPPORTED then do to the transaction's owner: STATUS by the slot's state, a
malformed record as a failure, the end of a stand-down, a relay's result (R13, R17, R19, R21, R24, R27, R88, R89, R95); the
outcome of a marked attempt is dropped whole (R92, R117). The slot's sideband failures counter is unchanged whatever the
result, and its faults counter rises only at an entry into FAULTED (R26, R87, R88, Table 5-2). BUSY has the statement of the
failed attempts, IDENTIFY's DONE one of its own. -/
def Obligations.CheckByteIsJudged : Prop :=
  ∀ (s : State) (t : Nat) (f : InFlight) (bits : BusBits) (b : Byte), s.takes t → QueueLaw s → s.engine.state = .receive →
    s.engine.draining = false → s.inFlight = some f → s.engine.position = .check → s.formed t → CarriesByte bits b →
    ∃ s', exec (.responseCheckByte t bits) s = .next s' ∧
      (b ≠ s.engine.crc → Drains s s' t .check false ∧ EngineAlone s s') ∧
      (b = s.engine.crc →
        (s.engine.rxPayload = [] → Drains s s' t .mismatch false ∧ EngineAlone s s') ∧
          (∀ r body, s.engine.rxPayload = r :: body →
            (2 < r.toNat → Drains s s' t .mismatch false ∧ EngineAlone s s') ∧
              (r.toNat = 0 →
                AttemptEnded s s' t (.done body) ∧ (f.discard = false → DoneTaken s s' t f.tx body)) ∧
              (r.toNat = 1 →
                AttemptEnded s s' t .busy ∧
                  (f.discard = false → s'.partCount .sbBusy = satInc (s.partCount .sbBusy))) ∧
              (r.toNat = 2 →
                AttemptEnded s s' t .unsupported ∧
                  (f.discard = false → EndedWithoutDone s s' t f.tx .unsupported (s.slot f.tx.slot) [])) ∧
              (r.toNat ≤ 2 → f.discard = true → OutcomeDropped s s') ∧
              (∀ d : PartCounter, d ≠ .notesLost → r.toNat ≠ 1 ∨ d ≠ .sbBusy → s'.partCount d = s.partCount d))) ∧
      SlotCountsKept s s' f.tx.slot [.faults] ∧ FaultsCounted s s' f.tx.slot ∧
      OtherSlotsKept s s' f.tx.slot ∧ OtherWorkKept s s' f.tx.slot ∧ s'.cycle = s.cycle ∧ s'.beacons = s.beacons ∧
      TablesKept s s' ∧ ReceiverKept s s' ∧ TransmitterKept s s' ∧ LinesKept s s'

/-- The response timeout, the gap and the two ends of draining each end the attempt with its failure: counted, and taken by
the slot, unless the discard mark is set (R106, R110, R114, R115, R117, Table 6-7). The slot's count of consecutive failures
rises, to 15 at most, and faults a slot in ENABLING or ACTIVE with SIDEBAND_FAULT when it reaches FAULT_LIMIT, before the
RELAY_RESULT of a relay that this attempt ends (R19, R26, R85, R91). The expiry of a wait for a falling edge says that none
came before it, and one at its instant begins a character (R107; log 11). -/
def Obligations.ExpiryEndsTheAttempt : Prop :=
  ∀ (s : State) (t : Nat) (f : InFlight) (c : Instr) (k : FailureKind) (p : PartCounter) (i : Slot) (n : Nat), s.takes t →
    QueueLaw s → s.inFlight = some f → FailsAt s c t k → i = f.tx.slot → n = (s.slot i).failuresAfter →
    (k, p) ∈ [(.noResponse, .sbNoResponse), (.parity, .sbParity), (.framing, .sbFraming), (.check, .sbCheck),
      (.mismatch, .sbMismatch), (.short, .sbShort), (.overlength, PartCounter.sbOverlength)] →
    ∃ s', exec c s = .next s' ∧ AttemptEnded s s' t (.failed k) ∧
      (f.discard = false →
        s'.partCount p = satInc (s.partCount p) ∧
          s'.slotCount i .sidebandFailures = satInc (s.slotCount i .sidebandFailures) ∧ (s'.slot i).failures = n ∧
          (s.faultsAt i n = true →
            EnteredFaulted s s' i { s.slot i with failures := n } .sidebandFault none
              (s.lastResult { f.tx with attempts := f.tx.attempts + 1 } (.failed k))) ∧
          (s.faultsAt i n = false → (s.slot i).state ≠ .identifying →
            (s'.slot i).state = (s.slot i).state ∧ s'.slotCount i .faults = s.slotCount i .faults)) ∧
      (f.discard = true → OutcomeDropped s s') ∧
      (∀ w, s.engine.receiver = .waiting w → c ≠ .drainLimitExpiry t →
        s'.engine.receiver = waitingFrom t (w.heldLow && decide (t ≤ w.free))) ∧
      (∀ m, s.engine.receiver = .inCharacter m → s'.engine.receiver = .inCharacter m) ∧
      OtherSlotsKept s s' i ∧ OtherWorkKept s s' i ∧
      SlotCountsKept s s' i [.sidebandFailures, .faults] ∧ FaultsCounted s s' i ∧
      (∀ d : PartCounter, d ≠ p → d ≠ .notesLost → s'.partCount d = s.partCount d) ∧
      s'.cycle = s.cycle ∧ s'.beacons = s.beacons ∧ TablesKept s s' ∧ ReceiverKept s s' ∧ TransmitterKept s s' ∧
      LinesKept s s'

/-- An unmarked attempt that fails by one of the four expiries, or that a well-formed BUSY ends, uses an attempt, and BUSY
counts as busy too (R86, R87). While attempts remain the transaction is retried at the tail, an internal one only if none is
queued for its slot (R90); otherwise it ends: a relay with RELAY_RESULT of its last failure kind or BUSY, behind the
SLOT_CHANGE of a SIDEBAND_FAULT; an IDENTIFY with IDENTIFY_FAILED; a STAND_DOWN unconfirmed (R13, R24, R91, R95). -/
def Obligations.FailedAttemptIsRetriedOrEnds : Prop :=
  ∀ (s : State) (t : Nat) (c : Instr) (x y : Transaction) (o : RelayOutcome) (r : SlotRecord) (before : List Note),
    s.takes t → QueueLaw s → s.inFlight = some { tx := x, discard := false } →
    (∃ k, FailsAt s c t k ∧ o = .failed k ∧ y = { x with attempts := x.attempts + 1 } ∧
        r = { s.slot x.slot with failures := (s.slot x.slot).failuresAfter } ∧
        before = s.faultNotes x.slot (s.slot x.slot).failuresAfter) ∨
      (ChecksAt s c t ∧ (∃ body, s.engine.rxPayload = 1 :: body) ∧ o = .failedBusy ∧
        y = { x with attempts := x.attempts + 1, busy := x.busy + 1 } ∧ r = s.slot x.slot ∧ before = []) →
    ∃ s', exec c s = .next s' ∧
      (y.attempts ≤ s.params.retryLimit →
        (x.work.internal = true →
          s'.transactions
            = if s.transactions.any (fun z => z.internalOf x.slot) then s.transactions else s.transactions ++ [y]) ∧
          (x.work.internal = false → s'.transactions = s.transactions ++ [y]) ∧
          (before = [] → s'.slot x.slot = r ∧ Silent s s')) ∧
      (s.params.retryLimit < y.attempts →
        EndedWithoutDone s s' t y o (if before = [] then r else r.faulted .sidebandFault) before)

/-- An IDENTIFY answered DONE stores a valid identity and sends the slot where the admission table and the budget limit say;
an invalid one faults it, which its faults counter counts (R11, R12, R13, R26, R49, R55, R56). No other slot counter changes.
A slot that joins may be granted within the event. -/
def Obligations.IdentifyDoneFollowsTheTable : Prop :=
  ∀ (s : State) (t : Nat) (c : Instr) (i : Slot) (attempts busy : Nat) (body : List Byte), s.takes t → QueueLaw s →
    IdentityLaw s → EnableLaw s → ChecksAt s c t →
    s.inFlight = some { tx := { slot := i, work := .identify, attempts := attempts, busy := busy }, discard := false } →
    s.engine.rxPayload = 0 :: body → (s.slot i).state = .identifying →
    ∃ s', exec c s = .next s' ∧ (s'.slot i).failures = 0 ∧ s'.transactions = s.transactions ∧
      (identityOf body = none →
        (s'.slot i).state = .faulted ∧ (s'.slot i).reason = .identityInvalid ∧ (s'.slot i).identity = none ∧
          Counted s s' i .faults ∧
          Raised s s' [.slotChange i .identifying .faulted .identityInvalid none]) ∧
      ∀ d, identityOf body = some d →
        (s'.slot i).identity = some d ∧ s'.slotCounters = s.slotCounters ∧
          (evaluate s.admission.toList d = .hold →
            (s'.slot i).state = .pending ∧ (s'.slot i).reason = .identifiedHold ∧
              Raised s s' [.slotChange i .identifying .pending .identifiedHold (some d.summary)]) ∧
          (evaluate s.admission.toList d = .refuse →
            (s'.slot i).state = .parked ∧ (s'.slot i).reason = .identifiedRefuse ∧
              Raised s s' [.slotChange i .identifying .parked .identifiedRefuse (some d.summary)]) ∧
          (evaluate s.admission.toList d = .admitModule → s.params.budgetLimit < d.units →
            (s'.slot i).state = .pending ∧ (s'.slot i).reason = .exceedsLimit ∧
              Raised s s' [.slotChange i .identifying .pending .exceedsLimit (some d.summary)]) ∧
          (evaluate s.admission.toList d = .admitModule → d.units ≤ s.params.budgetLimit →
            ((s'.slot i).state = .queued ∧ (s'.slot i).reason = .identifiedAdmit ∨
              (s'.slot i).state = .enabling ∧ (s'.slot i).reason = .enableGranted ∧ (s'.slot i).enable = true) ∧
              (s'.slot i).admittedBy = some .table ∧
              Raised s s' [.slotChange i .identifying .queued .identifiedAdmit (some d.summary)])

/-! ### The bus cycle -/

/-- The end of a turnaround: IDLE; with a window, the next due record's frame before the quiet point, every record left
skipped after it, or the window's end (R116, R127 to R130). At the very instant of the quiet point the operand, or an earlier
turnaround of this cycle that found it reached, says which was taken first (log 6); the instant is compared with the nominal
quiet point exactly (the model's choice, log 29). -/
def Obligations.TurnaroundEndServesTheWindow : Prop :=
  ∀ (s : State) (t : Nat) (quietFirst : Bool) (m : Timer), s.takes t → s.engine.state = .turnaround →
    s.engine.turnaround = some m → m.due t = true →
    ∃ s', exec (.turnaroundEnd t quietFirst) s = .next s' ∧
      (s.cycle.window = .none ∨ s.cycle.due = [] →
        s'.engine = { s.engine with state := .idle, turnaround := none } ∧ s'.cycle.window = .none ∧
          s'.cycle.due = s.cycle.due ∧ s'.beacons = s.beacons ∧ s'.partCounters = s.partCounters) ∧
      (∀ k rest, s.cycle.window ≠ .none → s.cycle.due = k :: rest →
        (t < s.cycle.quiet ∨ t = s.cycle.quiet ∧ quietFirst = false ∧ s.cycle.quietTaken = false →
          BeaconStarted s s' t s.cycle.number k rest) ∧
          (s.cycle.quiet < t ∨ t = s.cycle.quiet ∧ (quietFirst = true ∨ s.cycle.quietTaken = true) →
            s'.engine = { s.engine with state := .idle, turnaround := none } ∧ s'.cycle.window = .none ∧
              s'.cycle.due = [] ∧ s'.beacons = s.beacons ∧
              (s'.partCount .beaconsSkipped).toNat
                = saturated (s.partCount .beaconsSkipped) (rest.length + 1))) ∧
      s'.cycle.number = s.cycle.number ∧ s'.cycle.quiet = s.cycle.quiet ∧ QueuesKept s s' ∧ s'.slots = s.slots ∧
      s'.slotCounters = s.slotCounters ∧ Silent s s' ∧
      (∀ d : PartCounter, d ∉ [.beaconsSent, .beaconsLate, .beaconsSkipped] → s'.partCount d = s.partCount d) ∧
      TablesKept s s' ∧ ReceiverKept s s' ∧ TransmitterKept s s' ∧
      LinesKept s s'

/-- A cycle start: the number advances, period and guard are taken, records left are skipped, the due list is formed, and the
window opens, waits or is absent (R122, R126, R127, R129). The cycle starts at the command's instant (the model's choice, log
14). -/
def Obligations.CycleStartFormsTheWindow : Prop :=
  ∀ (s : State) (t : Nat), s.takes t → ParamLaw s →
    s.cycle.start + s.cycle.period ≤ t + Config.tolerance s.cycle.period →
    ∃ s', exec (.cycleStart t) s = .next s' ∧ CycleStarted s s' t (s.cycle.number + 1) ∧
      QueuesKept s s' ∧ s'.slots = s.slots ∧ s'.slotCounters = s.slotCounters ∧ Silent s s' ∧ TablesKept s s' ∧
      ReceiverKept s s' ∧ TransmitterKept s s' ∧ LinesKept s s'

/-! ### Reception on the host link -/

/-- A good character that neither completes nor abandons a frame moves the receiver as Table 9-2 says; the gap measurement
restarts at its end while a frame is in progress (R151, R153). No character begins before the end of the last one, nor, after a
low stop bit, before the line has been high (R150). The command carries its falling edge (the model's choice, log 26). -/
def Obligations.GoodCharacterMovesTheReceiver : Prop :=
  ∀ (s : State) (t : Span) (b : Byte) (rx : HlRx),
    (t.start < s.hrxd.free ∨ (s.hrxd.heldLow = true ∧ t.start = s.hrxd.free) → exec (.hlGoodCharacter t b) s = .next s) ∧
      (s.takes t.stop → s.hears 1 t →
        (s.rx = .hunt ∧ rx = (if b = 0xA5 then .headerLen else .hunt)) ∨
          (s.rx = .headerLen ∧ b.toNat ≤ 56 ∧ rx = .headerKind b) ∨
          (∃ len, s.rx = .headerKind len ∧ rx = .headerSeq len b) ∨
          (∃ len kind, s.rx = .headerSeq len kind ∧
            rx = if len = 0 then .check kind b [] none else .payload len kind b []) ∨
          (∃ len kind seq taken, s.rx = .payload len kind seq taken ∧
            rx = if taken.length + 1 < len.toNat then .payload len kind seq (taken ++ [b])
                 else .check kind seq (taken ++ [b]) none) ∨
          (∃ kind seq payload, s.rx = .check kind seq payload none ∧ rx = .check kind seq payload (some b)) →
        ∃ s', exec (.hlGoodCharacter t b) s = .next s' ∧ s'.rx = rx ∧ s'.hrxd = { free := t.stop, heldLow := false } ∧
          s'.rxGap = (if rx = .hunt then none else some { start := t.stop, dur := 5000 }) ∧ s'.cache = s.cache ∧
          SameSlots s s' ∧ Silent s s' ∧ TablesKept s s' ∧ BusKept s s' ∧ TransmitterKept s s' ∧ LinesKept s s')

/-- A framing error in any state, a gap of 5 ms, and a CRC that does not match each abandon or drop the frame, count once,
and leave no reply (R150, R151, R153, R154). A line held low is one framing error and no series: the next character begins only
once the line has been high (R150). A gap's end says that no falling edge came before it (the model's choice, log 26). -/
def Obligations.ReceptionErrorDropsTheFrame : Prop :=
  (∀ (s : State) (t : Nat) (c : Instr) (p : PartCounter) (low : Bool), s.takes t →
    (∃ start, c = .hlFramingError ⟨start, t⟩ ∧ p = .hlFramingErrors ∧ low = true ∧ s.hears 1 ⟨start, t⟩) ∨
      (c = .hlGapAbort t ∧ p = .hlGapAborts ∧ low = (s.hrxd.heldLow && decide (t ≤ s.hrxd.free)) ∧ s.rx ≠ .hunt ∧
        ∃ m, s.rxGap = some m ∧ m.due t = true) ∨
      (∃ start kind seq payload crc, c = .hlCrcError ⟨start, t⟩ kind seq payload crc ∧ p = .hlCrcErrors ∧ low = false ∧
        crc ≠ frameCrc kind seq payload ∧ s.hearsFrame ⟨⟨start, t⟩, kind, seq, payload⟩ crc) →
    ∃ s', exec c s = .next s' ∧ s'.rx = .hunt ∧ s'.rxGap = none ∧ s'.hrxd = { free := t, heldLow := low } ∧
      PartCounted s s' p ∧ s'.cache = s.cache ∧ s'.slots = s.slots ∧ s'.slotCounters = s.slotCounters ∧ QueuesKept s s' ∧
      Silent s s' ∧ TablesKept s s' ∧ BusKept s s' ∧ TransmitterKept s s' ∧ LinesKept s s') ∧
    ∀ (s : State) (t : Span), s.hrxd.heldLow = true → t.start ≤ s.hrxd.free → exec (.hlFramingError t) s = .next s

/-- A LEN above 56 abandons the frame: counted, HUNT whatever its value, no reply (R152). -/
def Obligations.LengthAboveFiftySixAbandonsTheFrame : Prop :=
  ∀ (s : State) (t : Span) (b : Byte), s.takes t.stop → s.hears 1 t → s.rx = .headerLen → 56 < b.toNat →
    ∃ s', exec (.hlLengthAbort t b) s = .next s' ∧ s'.rx = .hunt ∧ s'.rxGap = none ∧
      s'.hrxd = { free := t.stop, heldLow := false } ∧ PartCounted s s' .hlLengthAborts ∧
      s'.cache = s.cache ∧ s'.slots = s.slots ∧ s'.slotCounters = s.slotCounters ∧ QueuesKept s s' ∧ Silent s s' ∧
      TablesKept s s' ∧ BusKept s s' ∧ TransmitterKept s s' ∧ LinesKept s s'

/-- A frame of a KIND or length not accepted is answered BAD_REQUEST and leaves every block and the reply cache as they were;
a RESTART of another kind is answered BAD_REQUEST by its owner, which caches it (R157, R158, R163; this command carries it by
the model's choice, log 10). -/
def Obligations.UnacceptedFrameIsBadRequest : Prop :=
  ∀ (s : State) (t : Span) (kind seq : Byte) (payload : List Byte), s.receives ⟨t, kind, seq, payload⟩ →
    (accepts kind payload.length = false →
      ∃ s', exec (.unknownKindFrame t kind seq payload) s = .next s' ∧
        Heard s' ⟨t, kind, seq, payload⟩ ∧
        Replied (s.elapse t.stop).tx s s' ⟨t, kind, seq, payload⟩ .badRequest none ∧
        s' = { s with now := s'.now, rx := s'.rx, rxGap := s'.rxGap, hrxd := s'.hrxd, intake := s'.intake, tx := s'.tx
                      notes := (s.elapse t.stop).notes, resendTimer := (s.elapse t.stop).resendTimer }) ∧
      (∀ b, kind = 0x02 → payload = [b] → b.toNat ≠ 1 → b.toNat ≠ 2 →
        Executed (.unknownKindFrame t kind seq payload) s s ⟨t, kind, seq, payload⟩ .badRequest none)

/-- A good frame is dropped while a restart is pending; it is an overrun while the intake is occupied, and the held frame's
reply carries the flag; a frame whose SEQ and KIND equal the cache entry's is answered from the cache and not executed
(R155, R156, R159). -/
def Obligations.FrameMeetsIntakeAndCache : Prop :=
  ∀ (c : Instr) (s : State) (f : RequestFrame), c.wellFormed = true → requestFrame c = some f → s.completes f →
    (s.restartPending ≠ none →
      exec c s
        = .next { s with now := f.span.stop, rx := .hunt, rxGap := none
                         hrxd := { free := f.span.stop, heldLow := false } }) ∧
      (∀ g, s.restartPending = none → (s.elapse f.span.stop).intake = some g →
        ∃ s', exec c s = .next s' ∧ Heard s' f ∧ PartCounted s s' .hlOverruns ∧ s'.cache = s.cache ∧ s'.slots = s.slots ∧
          s'.slotCounters = s.slotCounters ∧ QueuesKept s s' ∧ Silent s s' ∧ TablesKept s s' ∧ BusKept s s' ∧
          LinesKept s s' ∧
          (s.tx ≠ none → s'.tx = s.tx ∧ s'.intake = some { g with overrun := true }) ∧
          (s.tx = none →
            s'.tx = some (s.frameFrom f.span.stop (hostFrame g.kind g.seq (g.reply.payload true))))) ∧
      (∀ e, s.restartPending = none → s.intake = none → s.cache = some e → e.seq = f.seq → e.kind = f.kind →
        ∃ s', exec c s = .next s' ∧ Heard s' f ∧ PartCounted s s' .hlCacheHits ∧
          Replied (s.elapse f.span.stop).tx s s' f e.reply none ∧
          s' = { s with now := s'.now, rx := s'.rx, rxGap := s'.rxGap, hrxd := s'.hrxd, partCounters := s'.partCounters
                        intake := s'.intake, tx := s'.tx, notes := (s.elapse f.span.stop).notes
                        resendTimer := (s.elapse f.span.stop).resendTimer })

/-! ### The transmitter and the restarts -/

/-- At the end of a frame the transmitter starts a ready reply, else the oldest unsent notification if fewer than NOTE_WINDOW
are outstanding, else nothing; a notification's start marks it sent and starts the resend timer if none was outstanding
(R141, R145, R160, R161). A frame goes out as characters of ten bits, ten bit times each at the strap rate (R149; in whole us,
log 15). -/
def Obligations.FrameEndDecidesTheNextFrame : Prop :=
  ∀ (s : State) (t : Nat) (x : TxFrame), s.takes t → s.tx = some x → x.timer.due t = true → s.restartPending = none →
    ∃ s', exec (.txFrameEnd t) s = .next s' ∧ s'.now = t ∧
      (∀ f, s.intake = some f →
        s'.tx = some (s.frameFrom t (hostFrame f.kind f.seq (f.reply.payload f.overrun))) ∧
          s'.intake = none ∧ s'.restartPending = f.restart ∧ s'.notes = s.notes) ∧
      (s.intake = none →
        (∀ run e rest, s.notes = run ++ e :: rest → (∀ d ∈ run, d.sent = true) → e.sent = false →
          (∀ d ∈ rest, d.sent = false) → run.length < s.params.noteWindow →
          s'.tx = some (s.frameFrom t e.frame) ∧ s'.notes = run ++ { e with sent := true } :: rest ∧
            s'.resendTimer
              = if run = [] then some { start := t, dur := s.params.noteResend * 1000 } else s.resendTimer) ∧
          (s.params.noteWindow ≤ s.outstanding ∨ (∀ e ∈ s.notes, e.sent = true) →
            s'.tx = none ∧ s'.notes = s.notes)) ∧
      (∀ b : Byte, CarriesHostByte (hostCharacter b) b) ∧ SameSlots s s' ∧ TablesKept s s' ∧ BusKept s s' ∧
      ReceiverKept s s' ∧ LinesKept s s'

/-- At the end of the RESTART reply a warm restart takes effect (R31, R47, R78, R97, R121, R135, R147, R164).
RESTARTED(WARM), the 24 state reports and the grants that follow are the new list, numbered from 0, no resend timer running;
work is refilled and the transaction in flight marked; the admission queue is the QUEUED slots in ascending order, examined;
cycle 0 starts; the cache is empty. Slots, lines, tables, parameters, receiver, slot counters and the engine are kept, but
for the slots granted and for a beacon frame that cycle 0 starts. -/
def Obligations.WarmRestartReissuesTheWork : Prop :=
  ∀ (s : State) (t : Nat) (x : TxFrame) (queued : List Slot), s.takes t → ParamLaw s → s.tx = some x →
    x.timer.due t = true → s.restartPending = some .warm →
    queued = (List.finRange 24).filter (fun i => (s.slot i).state = .queued) →
    ∃ s', exec (.txFrameEnd t) s = .next s' ∧
      s'.notes
        = numbered 0
            (.restarted .warm
              :: (List.finRange 24).map (fun i => .slotChange i (s.slot i).state (s.slot i).state .warmRestart none)
              ++ (queued.filter (fun i => i ∉ s'.admissionQueue)).map
                (fun i => .slotChange i .queued .enabling .enableGranted none)) ∧
      s'.nextSeq = BitVec.ofNat 16 s'.notes.length ∧ s'.resendTimer = none ∧
      Examined s s' queued s.params.budgetLimit s.params.staggerLimit ∧
      (∀ i : Slot, (s.slot i).state ≠ .queued → s'.slot i = s.slot i) ∧
      s'.transactions
        = (List.finRange 24).filterMap (fun i =>
            (match s.transactions.find? (fun y : Transaction => y.internalOf i) with
              | some y => some y.work
              | none =>
                match s.inFlight with
                | some f => if f.tx.internalOf i && !f.discard then some f.tx.work else none
                | none => none).map fun w => { slot := i, work := w, attempts := 0, busy := 0 }) ∧
      s'.inFlight = s.inFlight.map (fun f => { f with discard := true }) ∧ CycleStarted s s' t 0 ∧
      s'.cache = none ∧ s'.tx = none ∧ s'.restartPending = none ∧ s'.intake = s.intake ∧ s'.hrxd = s.hrxd ∧ s'.rx = s.rx ∧
      s'.rxGap = s.rxGap ∧ s'.slotCounters = s.slotCounters ∧ TablesKept s s' ∧ LinesKept s s'

/-- At the end of the RESTART reply a cold restart sets every block as a cold reset does, without sampling the straps, and
the part runs on (R163, R165, R149). The first samples are the levels last seen (the model's choice, log 13), and both
character receivers wait from the reset on (log 33). -/
def Obligations.ColdRestartIsAColdReset : Prop :=
  ∀ (s : State) (t : Nat) (x : TxFrame), s.takes t → s.tx = some x → x.timer.due t = true →
    s.restartPending = some .cold →
    ∃ s', exec (.txFrameEnd t) s = .next s' ∧ ColdValues s' ∧ ColdRun s' t s.spres ∧ s'.hostRate = s.hostRate ∧
      s'.pending = s.pending

/-- The resend timer's expiry makes every entry unsent, counts once and stops the timer; an idle transmitter then starts the
sends again from the head, and the first of them starts the timer (R145, R146). An expiry at the instant at which an idle
transmitter would start a notification is taken before that start (the model's choice, log 34). -/
def Obligations.ResendTimerGoesBack : Prop :=
  ∀ (s : State) (t : Nat) (m : Timer), s.takes t → (s.elapse t).resendTimer = some m → m.due t = true →
    ∃ s', exec (.resendTimerExpiry t) s = .next s' ∧ PartCounted s s' .notesResent ∧
      s'.notes = (notesAt s s').map (fun e => { e with sent := false }) ∧ s'.nextSeq = s.nextSeq ∧
      s'.resendTimer = none ∧ s'.tx = (s.elapse t).tx ∧ s'.intake = (s.elapse t).intake ∧
      s'.restartPending = (s.elapse t).restartPending ∧
      (∀ e rest later, t < later → s'.tx = none → s'.restartPending = none → s'.intake = none →
        0 < s.params.noteWindow → s'.notes = e :: rest →
        (s'.elapse later).tx
            = some (s.frameFrom t e.frame) ∧
          (s'.elapse later).resendTimer = some { start := t, dur := s.params.noteResend * 1000 } ∧
          (s'.elapse later).notes = { e with sent := true } :: rest) ∧
      s'.slots = s.slots ∧ s'.slotCounters = s.slotCounters ∧ QueuesKept s s' ∧ TablesKept s s' ∧ BusKept s s' ∧
      ReceiverKept s s' ∧ LinesKept s s'

/-! ### Requests -/

/-- IDENT returns the part's constants and changes nothing (R162). -/
def Obligations.IdentReturnsTheConstants : Prop :=
  ∀ (s : State) (t : Span) (seq : Byte), s.receives ⟨t, 0x01, seq, []⟩ →
    Executed (.ident t seq) s s ⟨t, 0x01, seq, []⟩ (.ok [0x18, 0x0C, 0x01, 24, 1]) none

/-- RESTART is answered OK, and its restart is pending from the start of that reply (R163). -/
def Obligations.RestartIsAnsweredAndPending : Prop :=
  ∀ (s : State) (t : Span) (seq : Byte),
    (s.receives ⟨t, 0x02, seq, [1]⟩ → Executed (.restartWarm t seq) s s ⟨t, 0x02, seq, [1]⟩ (.ok []) (some .warm)) ∧
      (s.receives ⟨t, 0x02, seq, [2]⟩ → Executed (.restartCold t seq) s s ⟨t, 0x02, seq, [2]⟩ (.ok []) (some .cold))

/-- SLOT_QUERY and SLOT_IDENTITY return what the slot record holds and change nothing (R30, R51). Bits 1 to 7 of the latch
flags are sent as 0 (the model's choice, log 30). -/
def Obligations.SlotReadsReturnTheRecord : Prop :=
  ∀ (s : State) (t : Span) (seq slot : Byte),
    (s.receives ⟨t, 0x03, seq, [slot]⟩ →
      (slot = 0 →
        Executed (.slotQuery t seq slot) s s ⟨t, 0x03, seq, [slot]⟩
          (.ok ((List.finRange 24).flatMap fun i => [(s.slot i).state.code, (s.slot i).reason.code])) none) ∧
        (∀ i : Slot, slot.toNat = i.val + 1 →
          Executed (.slotQuery t seq slot) s s ⟨t, 0x03, seq, [slot]⟩
            (.ok [(s.slot i).state.code, (s.slot i).reason.code, if (s.slot i).attentionLatched then 1 else 0,
              BitVec.ofNat 8 (s.slot i).failures, ((s.slot i).admittedBy.map AdmittedBy.code).getD 0,
              ((s.slot i).lastStatus.map fun r => r.condition.code).getD 0]) none) ∧
        (24 < slot.toNat → Executed (.slotQuery t seq slot) s s ⟨t, 0x03, seq, [slot]⟩ (.refused .range) none)) ∧
      (s.receives ⟨t, 0x06, seq, [slot]⟩ →
        (∀ (i : Slot) (d : Identity), slot.toNat = i.val + 1 → (s.slot i).identity = some d →
          Executed (.slotIdentity t seq slot) s s ⟨t, 0x06, seq, [slot]⟩
            (.ok (halfBytes d.vendor ++ [d.cls, d.revision] ++ wordBytes d.serial
              ++ [BitVec.ofNat 8 d.units, d.ready.code, BitVec.ofNat 8 d.name.length] ++ d.name)) none) ∧
          (∀ i : Slot, slot.toNat = i.val + 1 → (s.slot i).identity = none →
            Executed (.slotIdentity t seq slot) s s ⟨t, 0x06, seq, [slot]⟩ (.refused .absent) none) ∧
          (slot.toNat = 0 ∨ 24 < slot.toNat →
            Executed (.slotIdentity t seq slot) s s ⟨t, 0x06, seq, [slot]⟩ (.refused .range) none))

/-- RELEASE parks a QUEUED or ENABLING slot, begins the stand-down of an ACTIVE one, whose queued STATUS is removed and whose
relays stay in their order (R79, R81, R83), and is refused otherwise (R28, R22, R26). -/
def Obligations.ReleaseWithdrawsPower : Prop :=
  ∀ (s : State) (t : Span) (seq slot : Byte), QueueLaw s → s.receives ⟨t, 0x04, seq, [slot]⟩ →
    (∀ i : Slot, slot.toNat = i.val + 1 →
      ((s.slot i).state = .queued ∨ (s.slot i).state = .enabling →
        ∃ s', exec (.release t seq slot) s = .next s' ∧ Answered s s' ⟨t, 0x04, seq, [slot]⟩ (.ok []) ∧
          s'.slot i
            = { s.slot i with state := .parked, reason := .hostRelease, enable := false, powerup := none, poll := none,
                              health := none, drain := none, admittedBy := none } ∧
          i ∉ s'.admissionQueue ∧ Credited s s' i ∧
          Raised s s' [.slotChange i (s.slot i).state .parked .hostRelease none] ∧
          s'.transactions = s.transactions ∧ s'.inFlight = s.inFlight ∧ s'.slotCounters = s.slotCounters ∧
          PartKept s s' ∧ OtherSlotsKept s s' i ∧ TablesKept s s' ∧ BusKept s s' ∧ LinesKept s s' ∧ ResendKept s s') ∧
        ((s.slot i).state = .active →
          ∃ s', exec (.release t seq slot) s = .next s' ∧ Answered s s' ⟨t, 0x04, seq, [slot]⟩ (.ok []) ∧
            s'.slot i
              = { s.slot i with state := .releasing, reason := .hostRelease, health := none, reportOwed := false
                                standDownConfirmed := false } ∧
            StandDownEntered s.transactions s'.transactions i ∧
            s'.inFlight
              = s.inFlight.map (fun f => if f.tx.slot = i ∧
              f.tx.work = .status then { f with discard := true } else f) ∧
            RaisedOnce s s' (.slotChange i .active .releasing .hostRelease none) ∧ PowerKept s s' ∧
            s'.slotCounters = s.slotCounters ∧ PartKept s s' ∧ OtherSlotsKept s s' i ∧ TablesKept s s' ∧
            BusKept s s' ∧ LinesKept s s' ∧ ResendKept s s') ∧
        ((s.slot i).state ∉ [.queued, .enabling, .active] →
          Executed (.release t seq slot) s s ⟨t, 0x04, seq, [slot]⟩ (.refused .state) none)) ∧
      (slot.toNat = 0 ∨ 24 < slot.toNat →
        Executed (.release t seq slot) s s ⟨t, 0x04, seq, [slot]⟩ (.refused .range) none)

/-- CLEAR returns a PARKED or FAULTED slot to IDENTIFYING after removing its entries and cancelling its relays, whose results
follow its SLOT_CHANGE, and is refused otherwise (R29, R96). -/
def Obligations.ClearIdentifiesAgain : Prop :=
  ∀ (s : State) (t : Span) (seq slot : Byte), s.receives ⟨t, 0x05, seq, [slot]⟩ →
    (∀ i : Slot, slot.toNat = i.val + 1 →
      ((s.slot i).state = .parked ∨ (s.slot i).state = .faulted →
        ∃ s', exec (.clear t seq slot) s = .next s' ∧ Answered s s' ⟨t, 0x05, seq, [slot]⟩ (.ok []) ∧
          EnteredIdentifying s s' i .hostClear (s.transactions.filter fun x => x.slot ≠ i) ∧
          s'.transactions
            = s.transactions.filter (fun x => x.slot ≠ i)
                ++ [{ slot := i, work := .identify, attempts := 0, busy := 0 }] ∧
          s'.inFlight = s.inFlight.map (fun f => if f.tx.slot = i then { f with discard := true } else f) ∧
          RaisedExactly s s' (.slotChange i (s.slot i).state .identifying .hostClear none :: s.cancelResults i) ∧
          s'.slotCounters = s.slotCounters ∧ PowerKept s s' ∧ PartKept s s' ∧ OtherSlotsKept s s' i ∧
          TablesKept s s' ∧ BusKept s s' ∧ LinesKept s s' ∧ ResendKept s s') ∧
        ((s.slot i).state ∉ [.parked, .faulted] →
          Executed (.clear t seq slot) s s ⟨t, 0x05, seq, [slot]⟩ (.refused .state) none)) ∧
      (slot.toNat = 0 ∨ 24 < slot.toNat →
        Executed (.clear t seq slot) s s ⟨t, 0x05, seq, [slot]⟩ (.refused .range) none)

/-- ADMISSION_WRITE replaces the whole entry or, malformed, changes nothing; ADMISSION_READ returns the entry as it stands
(R58, R60). -/
def Obligations.AdmissionTableIsWrittenAndRead : Prop :=
  ∀ (s : State) (t : Span) (seq index : Byte) (e : EntryBytes),
    (s.receives ⟨t, 0x07, seq, index :: entryBytes e⟩ →
      (∀ (k : Fin 16) (a : AdmissionEntry), index.toNat = k.val → admissionOf e = some a →
        Executed (.admissionWrite t seq index e) s { s with admission := s.admission.set k a }
          ⟨t, 0x07, seq, index :: entryBytes e⟩ (.ok []) none) ∧
        (15 < index.toNat ∨ 1 < e.valid.toNat ∨ 1 < e.vendorMatch.toNat ∨ 1 < e.classMatch.toNat ∨
            e.action.toNat = 0 ∨ 3 < e.action.toNat →
          Executed (.admissionWrite t seq index e) s s ⟨t, 0x07, seq, index :: entryBytes e⟩ .badRequest none)) ∧
      (s.receives ⟨t, 0x08, seq, [index]⟩ →
        (∀ k : Fin 16, index.toNat = k.val →
          Executed (.admissionRead t seq index) s s ⟨t, 0x08, seq, [index]⟩
            (.ok ([if (s.entry k).valid then 1 else 0, (s.entry k).vendorMatch.code] ++ halfBytes (s.entry k).vendor
              ++ [(s.entry k).classMatch.code, (s.entry k).cls, (s.entry k).minRevision, (s.entry k).action.code])) none) ∧
          (15 < index.toNat → Executed (.admissionRead t seq index) s s ⟨t, 0x08, seq, [index]⟩ .badRequest none))

/-- ADMIT queues a PENDING or PARKED slot whose units fit the budget limit, and is refused otherwise (Table 4-4). The slot may
be granted within the event. -/
def Obligations.AdmitJoinsTheQueue : Prop :=
  ∀ (s : State) (t : Span) (seq slot : Byte), QueueLaw s → s.receives ⟨t, 0x09, seq, [slot]⟩ →
    (∀ i : Slot, slot.toNat = i.val + 1 →
      ((s.slot i).state = .pending ∨ (s.slot i).state = .parked →
        ((s.slot i).units ≤ s.params.budgetLimit →
          ∃ s', exec (.admitSlot t seq slot) s = .next s' ∧ Answered s s' ⟨t, 0x09, seq, [slot]⟩ (.ok []) ∧
            ((s'.slot i).state = .queued ∧ (s'.slot i).reason = .hostAdmit ∨
              (s'.slot i).state = .enabling ∧ (s'.slot i).reason = .enableGranted ∧ (s'.slot i).enable = true) ∧
            (s'.slot i).admittedBy = some .host ∧ (s'.slot i).lastStatus = (s.slot i).lastStatus ∧
            (s'.slot i).attentionLatched = (s.slot i).attentionLatched ∧
            (s.admissionQueue ≠ [] → s'.admissionQueue = s.admissionQueue ++ [i] ∧ s'.committed = s.committed) ∧
            Raised s s' [.slotChange i (s.slot i).state .queued .hostAdmit none] ∧ OtherSlotsKept s s' i ∧
            s'.slotCounters = s.slotCounters ∧ s'.transactions = s.transactions ∧ s'.inFlight = s.inFlight ∧
            PartKept s s' ∧ TablesKept s s' ∧ BusKept s s' ∧
            LinesKept s s' ∧ ResendKept s s') ∧
          (s.params.budgetLimit < (s.slot i).units →
            Executed (.admitSlot t seq slot) s s ⟨t, 0x09, seq, [slot]⟩ (.refused .exceedsLimit) none)) ∧
        ((s.slot i).state ∉ [.pending, .parked] →
          Executed (.admitSlot t seq slot) s s ⟨t, 0x09, seq, [slot]⟩ (.refused .state) none)) ∧
      (slot.toNat = 0 ∨ 24 < slot.toNat →
        Executed (.admitSlot t seq slot) s s ⟨t, 0x09, seq, [slot]⟩ (.refused .range) none)

/-- RELAY is appended at the tail with the next ticket, or refused at the first check that fails (Table 5-3, R94). -/
def Obligations.RelayIsTicketedOrRefused : Prop :=
  ∀ (s : State) (t : Span) (seq slot : Byte) (payload : List Byte), 1 ≤ payload.length → payload.length ≤ 24 →
    s.receives ⟨t, 0x0A, seq, slot :: payload⟩ →
    (slot.toNat = 0 ∨ 24 < slot.toNat →
      Executed (.relay t seq slot payload) s s ⟨t, 0x0A, seq, slot :: payload⟩ (.refused .range) none) ∧
      ∀ i : Slot, slot.toNat = i.val + 1 →
        ((s.slot i).state ∈ [.unknown, .vacant, .identifying] →
          Executed (.relay t seq slot payload) s s ⟨t, 0x0A, seq, slot :: payload⟩ (.refused .state) none) ∧
          ((s.slot i).state ∉ [.unknown, .vacant, .identifying] → 8 ≤ s.relaysOutstanding →
            Executed (.relay t seq slot payload) s s ⟨t, 0x0A, seq, slot :: payload⟩ (.refused .queueFull) none) ∧
          ((s.slot i).state ∉ [.unknown, .vacant, .identifying] → s.relaysOutstanding < 8 →
            Executed (.relay t seq slot payload) s
              { s with
                transactions :=
                  s.transactions ++ [{ slot := i, work := .relay s.nextTicket payload, attempts := 0, busy := 0 }]
                nextTicket := if s.nextTicket = 65535 then 1 else s.nextTicket + 1 }
              ⟨t, 0x0A, seq, slot :: payload⟩ (.accepted s.nextTicket) none)

/-- BEACON_WRITE replaces the record and takes it off the due list, or answers at the first check that fails (Table 7-5,
R131). A WAITING window whose list it empties ends. -/
def Obligations.BeaconWriteReplacesTheRecord : Prop :=
  ∀ (s : State) (t : Span) (seq index state interval phase : Byte) (payload : List Byte) (f : RequestFrame),
    1 ≤ payload.length → payload.length ≤ 32 →
    f = ⟨t, 0x0B, seq, index :: state :: interval :: phase :: payload⟩ → s.receives f →
    (7 < index.toNat ∨ 2 < state.toNat →
      Executed (.beaconWrite t seq index state interval phase payload) s s f .badRequest none) ∧
      (index.toNat ≤ 7 → state.toNat ≤ 2 → interval.toNat = 0 →
        Executed (.beaconWrite t seq index state interval phase payload) s s f (.refused .range) none) ∧
      (index.toNat ≤ 7 → state.toNat ≤ 2 → interval.toNat ≠ 0 → interval.toNat ≤ phase.toNat →
        Executed (.beaconWrite t seq index state interval phase payload) s s f (.refused .conflict) none) ∧
      (∀ (k : Fin 8) (mode : BeaconState), index.toNat = k.val → state = mode.code → phase.toNat < interval.toNat →
        Executed (.beaconWrite t seq index state interval phase payload) s
          { s with
            beacons := s.beacons.set k { state := mode, interval := interval, phase := phase, payload := payload }
            cycle :=
              { s.cycle with
                due := s.cycle.due.filter (fun j => j ≠ k)
                window := if s.cycle.due.filter (fun j => j ≠ k) = [] ∧ s.cycle.window = .waiting then .none
                          else s.cycle.window } }
          f (.ok []) none)

/-- BEACON_STOP makes the record IDLE, keeps its other fields and takes it off the due list; BEACON_READ returns the record
(R133, R134). -/
def Obligations.BeaconIsStoppedAndRead : Prop :=
  ∀ (s : State) (t : Span) (seq index : Byte),
    (s.receives ⟨t, 0x0C, seq, [index]⟩ →
      (∀ k : Fin 8, index.toNat = k.val →
        Executed (.beaconStop t seq index) s
          { s with
            beacons := s.beacons.set k { s.beacon k with state := .idle }
            cycle :=
              { s.cycle with
                due := s.cycle.due.filter (fun j => j ≠ k)
                window := if s.cycle.due.filter (fun j => j ≠ k) = [] ∧ s.cycle.window = .waiting then .none
                          else s.cycle.window } }
          ⟨t, 0x0C, seq, [index]⟩ (.ok []) none) ∧
        (7 < index.toNat → Executed (.beaconStop t seq index) s s ⟨t, 0x0C, seq, [index]⟩ .badRequest none)) ∧
      (s.receives ⟨t, 0x0D, seq, [index]⟩ →
        (∀ k : Fin 8, index.toNat = k.val →
          Executed (.beaconRead t seq index) s s ⟨t, 0x0D, seq, [index]⟩
            (.ok ([(s.beacon k).state.code, (s.beacon k).interval, (s.beacon k).phase,
              BitVec.ofNat 8 (s.beacon k).payload.length] ++ (s.beacon k).payload)) none) ∧
          (7 < index.toNat → Executed (.beaconRead t seq index) s s ⟨t, 0x0D, seq, [index]⟩ .badRequest none))

/-- NOTE_ACK of a sent entry removes it and every entry before it and restarts or stops the resend timer; any other number is
refused and changes nothing (R143, R144). -/
def Obligations.NoteAckRemovesTheRun : Prop :=
  ∀ (s : State) (t : Span) (seq : Byte) (number : Half), s.receives ⟨t, 0x0E, seq, halfBytes number⟩ →
    (∀ before e rest, (s.elapse t.stop).notes = before ++ e :: rest → e.sent = true → e.seq = number →
      (∀ d ∈ before, d.sent = true → d.seq ≠ number) →
      ∃ s', exec (.noteAck t seq number) s = .next s' ∧ Answered s s' ⟨t, 0x0E, seq, halfBytes number⟩ (.ok []) ∧
        s'.notes = rest ∧
        s'.resendTimer
          = (if ∃ d ∈ rest, d.sent = true then some { start := t.stop, dur := s.params.noteResend * 1000 } else none) ∧
        SameSlots s s' ∧ TablesKept s s' ∧ BusKept s s' ∧ LinesKept s s') ∧
      ((∀ e ∈ (s.elapse t.stop).notes, e.sent = true → e.seq ≠ number) →
        Executed (.noteAck t seq number) s s ⟨t, 0x0E, seq, halfBytes number⟩ (.refused .sequence) none)

/-- SET_PARAM answers at the first check that fails and otherwise replaces the value in force; a limit apart, nothing else
changes (Table 10-2, R169). -/
def Obligations.SetParamChecksAndReplaces : Prop :=
  ∀ (s : State) (t : Span) (seq id : Byte) (value : Half) (f : RequestFrame), f = ⟨t, 0x0F, seq, id :: halfBytes value⟩ →
    s.receives f →
    (id.toNat = 0 ∨ 17 < id.toNat → Executed (.setParam t seq id value) s s f .badRequest none) ∧
      ∀ p : ParamId, id = p.code →
        (p.inRange value.toNat = false → Executed (.setParam t seq id value) s s f (.refused .range) none) ∧
          (p.inRange value.toNat = true → s.params.conflicts p value.toNat = true →
            Executed (.setParam t seq id value) s s f (.refused .conflict) none) ∧
          (p.inRange value.toNat = true → s.params.conflicts p value.toNat = false → p ≠ .budgetLimit →
            p ≠ .staggerLimit →
            Executed (.setParam t seq id value) s { s with params := s.params.set p value.toNat } f
              (.ok (id :: halfBytes value)) none)

/-- An accepted SET_PARAM of a limit replaces it. A lowered budget limit ejects every queued slot over it to PENDING, the
SLOT_CHANGE notifications raised in queue order; the others keep their order, and the examination at the end of the event
grants from the head (R72 to R75). -/
def Obligations.SetParamOfALimitActsOnTheQueue : Prop :=
  ∀ (s : State) (t : Span) (seq id : Byte) (value : Half) (p : ParamId) (f : RequestFrame) (out stay : List Slot),
    f = ⟨t, 0x0F, seq, id :: halfBytes value⟩ → s.receives f → QueueLaw s → BlockedLaw s → id = p.code →
    p = .budgetLimit ∨ p = .staggerLimit → p.inRange value.toNat = true →
    out = s.admissionQueue.filter (fun i => p = .budgetLimit ∧ value.toNat < (s.slot i).units) →
    stay = s.admissionQueue.filter (fun i => p = .staggerLimit ∨ (s.slot i).units ≤ value.toNat) →
    ∃ s', exec (.setParam t seq id value) s = .next s' ∧ Answered s s' f (.ok (id :: halfBytes value)) ∧
      s'.params = s.params.set p value.toNat ∧
      (∀ i ∈ out, s'.slot i = { s.slot i with state := .pending, reason := .limitLowered, admittedBy := none }) ∧
      Examined s s' stay s'.params.budgetLimit s'.params.staggerLimit ∧
      (∀ i : Slot, (s.slot i).state ≠ .queued → s'.slot i = s.slot i) ∧
      RaisedExactly s s'
        (out.map (fun i => .slotChange i .queued .pending .limitLowered none)
          ++ (stay.filter (fun i => i ∉ s'.admissionQueue)).map
            (fun i => .slotChange i .queued .enabling .enableGranted none)) ∧
      s'.transactions = s.transactions ∧ s'.inFlight = s.inFlight ∧ s'.slotCounters = s.slotCounters ∧ PartKept s s' ∧
      s'.admission = s.admission ∧ s'.nextTicket = s.nextTicket ∧ BusKept s s' ∧ LinesKept s s' ∧ ResendKept s s'

/-- GET_PARAM returns the value in force and changes nothing (R170). -/
def Obligations.GetParamReturnsTheValue : Prop :=
  ∀ (s : State) (t : Span) (seq id : Byte), s.receives ⟨t, 0x10, seq, [id]⟩ →
    (∀ p : ParamId, id = p.code →
      Executed (.getParam t seq id) s s ⟨t, 0x10, seq, [id]⟩
        (.ok (id :: halfBytes (BitVec.ofNat 16 (s.params.get p)))) none) ∧
      (id.toNat = 0 ∨ 17 < id.toNat → Executed (.getParam t seq id) s s ⟨t, 0x10, seq, [id]⟩ .badRequest none)

/-- COUNTERS_READ returns a group's counters; COUNTERS_CLEAR returns them and sets that group alone to 0; a group above 24 is
refused (R173, R174). -/
def Obligations.CountersAreReadAndCleared : Prop :=
  ∀ (s : State) (t : Span) (seq group : Byte),
    (s.receives ⟨t, 0x11, seq, [group]⟩ →
      (group = 0 →
        Executed (.countersRead t seq group) s s ⟨t, 0x11, seq, [group]⟩
          (.ok (s.partCounters.toList.flatMap wordBytes)) none) ∧
        (∀ i : Slot, group.toNat = i.val + 1 →
          Executed (.countersRead t seq group) s s ⟨t, 0x11, seq, [group]⟩
            (.ok (s.slotCounters[i].toList.flatMap halfBytes)) none) ∧
        (24 < group.toNat → Executed (.countersRead t seq group) s s ⟨t, 0x11, seq, [group]⟩ (.refused .range) none)) ∧
      (s.receives ⟨t, 0x12, seq, [group]⟩ →
        (group = 0 →
          Executed (.countersClear t seq group) s { s with partCounters := Vector.replicate 20 0 }
            ⟨t, 0x12, seq, [group]⟩ (.ok (s.partCounters.toList.flatMap wordBytes)) none) ∧
          (∀ i : Slot, group.toNat = i.val + 1 →
            Executed (.countersClear t seq group) s
              { s with slotCounters := s.slotCounters.set i (Vector.replicate 7 0) } ⟨t, 0x12, seq, [group]⟩
              (.ok (s.slotCounters[i].toList.flatMap halfBytes)) none) ∧
          (24 < group.toNat →
            Executed (.countersClear t seq group) s s ⟨t, 0x12, seq, [group]⟩ (.refused .range) none))

/-! ### Laws of the part: what every step keeps -/

/-- Slot state and classifier stay bound together (R45). -/
def Obligations.StepKeepsLineLaw : Prop :=
  ∀ s s' : State, Lawful s → step s = .next s' → LineLaw s'

/-- Identity, admitted_by, enable output, timers and field ranges go with the slot's state; measurements go with the
classifier's (R1, R4, Table 1-4, R43). -/
def Obligations.StepKeepsSlotRecordLaws : Prop :=
  ∀ s s' : State, Lawful s → step s = .next s' →
    IdentityLaw s' ∧ AdmittedLaw s' ∧ EnableLaw s' ∧ SlotTimerLaw s' ∧ SlotRangeLaw s' ∧ MeasureLaw s'

/-- Committed units are the powered slots' units and never exceed 1023, and the enabling count is the number of slots in
ENABLING (R61). The admission queue holds exactly the QUEUED slots, each once and within the budget limit, and between events
its head does not qualify for a grant (R63, R66). A slot enters ENABLING only by a grant, in queue order, within the budget
limit and the stagger limit (R65 to R67). -/
def Obligations.StepKeepsPowerAndQueueLaws : Prop :=
  ∀ s s' : State, Lawful s → step s = .next s' → PowerLaw s' ∧ QueueLaw s' ∧ BlockedLaw s' ∧ GrantsInOrder s s'

/-- The transaction queue keeps its quotas and addresses no empty slot (R82). -/
def Obligations.StepKeepsTransactionLaw : Prop :=
  ∀ s s' : State, Lawful s → step s = .next s' → TransactionLaw s'

/-- SBDIR is high exactly in REQUEST and BEACON, a transaction is in flight exactly during an attempt, the character receiver
is within no character while SBDIR is high or a wait for an edge runs, and the cycle, window and beacon records stay in their
ranges (R98, R107, R123, R127, Table 7-3). -/
def Obligations.StepKeepsBusLaws : Prop :=
  ∀ s s' : State, Lawful s → step s = .next s' → EngineLaw s' ∧ ReceiverLaw s' ∧ CycleLaw s' ∧ BeaconLaw s'

/-- The notification list keeps its bound, its LOSS marker, its numbering and its sent run; the resend timer runs exactly
while entries are outstanding (R136, R137, R141, R145). No notification is sent that leaves more outstanding than NOTE_WINDOW
(R141). -/
def Obligations.StepKeepsNoteLaw : Prop :=
  ∀ s s' : State, Lawful s → step s = .next s' →
    NoteLaw s' ∧ (s.outstanding < s'.outstanding → s'.outstanding ≤ s.params.noteWindow)

/-- Every value in force stays in its range and the two pairs stay consistent; the receiver's contents fit; a reply waits only
behind a frame on HTXD (R167, R169, R151, R160, R163). -/
def Obligations.StepKeepsParamAndLinkLaws : Prop :=
  ∀ s s' : State, Lawful s → step s = .next s' → ParamLaw s' ∧ LinkLaw s'
end

