-- ==== Sys2Proof/Laws/Characters.lean ====
section
/-! SUPPORT. The characters on SBDAT: what the bits of a character are classified as, the character receiver's tests as
propositions, and the status record that the characters of a response body hold. -/

namespace Sys2Proof.Machine

/-- The parity the receiver computes is that of the number of ones among the data bits and the parity bit (R99). -/
theorem parityOdd_count (bits : BusBits) :
    (parityOdd (bits.extractLsb' 1 8) ^^ bits.getLsbD 9)
      = decide (((List.range 9).countP fun k => bits.getLsbD (k + 1)) % 2 = 1) := by
  have h : ∀ k < 8, (bits.extractLsb' 1 8).getLsbD k = bits.getLsbD (k + 1) := by
    intro k hk; simp [hk, Nat.add_comm]
  unfold parityOdd
  simp only [show List.range 8 = [0, 1, 2, 3, 4, 5, 6, 7] from rfl, show List.range 9 = [0, 1, 2, 3, 4, 5, 6, 7, 8] from rfl,
    List.foldl, List.countP_cons, List.countP_nil, h 0 (by decide), h 1 (by decide), h 2 (by decide), h 3 (by decide),
    h 4 (by decide), h 5 (by decide), h 6 (by decide), h 7 (by decide)]
  generalize bits.getLsbD (0 + 1) = b0, bits.getLsbD (1 + 1) = b1, bits.getLsbD (2 + 1) = b2, bits.getLsbD (3 + 1) = b3,
    bits.getLsbD (4 + 1) = b4, bits.getLsbD (5 + 1) = b5, bits.getLsbD (6 + 1) = b6, bits.getLsbD (7 + 1) = b7,
    bits.getLsbD (8 + 1) = b8
  revert b0 b1 b2 b3 b4 b5 b6 b7 b8
  decide +kernel

/-- The byte that a character carries is its data bits, the first of them least significant (R99). -/
theorem CarriesByte.data {bits : BusBits} {b : Byte} (h : CarriesByte bits b) : bits.extractLsb' 1 8 = b := by
  refine BitVec.eq_of_getLsbD_eq fun k hk => ?_
  rw [BitVec.getLsbD_extractLsb', Nat.add_comm]
  simpa [hk] using h.2.1 ⟨k, hk⟩

/-- A character that carries a byte is good (R107). -/
theorem busChar_good {bits : BusBits} {b : Byte} (h : CarriesByte bits b) : busChar bits = some (.good b) := by
  have hp : (parityOdd b ^^ bits.getLsbD 9) = true := by
    rw [← h.data, parityOdd_count]; exact decide_eq_true h.2.2.1
  unfold busChar
  simp only [h.1, h.2.2.2, h.data, hp]
  rfl

/-- A low stop bit is a framing error, whatever the parity (R107). -/
theorem busChar_framing {bits : BusBits} (h0 : bits.getLsbD 0 = false) (h : bits.getLsbD 10 = false) :
    busChar bits = some .framingError := by
  unfold busChar; simp only [h0, h]; rfl

/-- With the stop bit high, an even number of ones is a parity error (R99, R107). -/
theorem busChar_parity {bits : BusBits} (h0 : bits.getLsbD 0 = false) (h : bits.getLsbD 10 = true)
    (he : ((List.range 9).countP fun k => bits.getLsbD (k + 1)) % 2 = 0) : busChar bits = some .parityError := by
  have hp : (parityOdd (bits.extractLsb' 1 8) ^^ bits.getLsbD 9) = false := by
    rw [parityOdd_count, he]; rfl
  unfold busChar; simp only [h0, h, hp]; rfl

/-- A character sent carries its byte (R99). -/
theorem busCharacter_carries (b : Byte) : CarriesByte (busCharacter b) b := by
  have hb : ∀ k : Fin 8, (busCharacter b).getLsbD (k.val + 1) = b.getLsbD k.val := by
    intro k; simp only [busCharacter, BitVec.getLsbD_append]; simp
  have h9 : (busCharacter b).getLsbD 9 = !parityOdd b := by
    simp only [busCharacter, BitVec.getLsbD_append]; simp
  have he : (busCharacter b).extractLsb' 1 8 = b :=
    BitVec.eq_of_getLsbD_eq fun k hk => by
      rw [BitVec.getLsbD_extractLsb', Nat.add_comm]; simpa [hk] using hb ⟨k, hk⟩
  have hc := parityOdd_count (busCharacter b)
  rw [he, h9, show ∀ p : Bool, (p ^^ !p) = true by decide] at hc
  refine ⟨?_, hb, of_decide_eq_true hc.symm, ?_⟩ <;> (simp only [busCharacter, BitVec.getLsbD_append]; simp)

/-- A character on HTXD carries its byte (R149). -/
theorem hostCharacter_carries (b : Byte) : CarriesHostByte (hostCharacter b) b := by
  refine ⟨?_, fun k => ?_, ?_⟩ <;> (simp only [hostCharacter, BitVec.getLsbD_append]; simp)

/-- Waiting begun again at `t`, at or after the last character's end, lets an edge at `t` itself begin the next one, unless `t`
is the end of a low stop bit (R107). -/
theorem EdgeWait.waitsFrom_startsAt {w : EdgeWait} {t : Nat} (h : w.free ≤ t) :
    (w.waitsFrom t).startsAt t = true ↔ w.heldLow = false ∨ w.free < t := by
  unfold EdgeWait.waitsFrom EdgeWait.startsAt
  cases hl : w.heldLow
  · simp
  · by_cases hf : t ≤ w.free
    · have : w.free = t := Nat.le_antisymm h hf
      simp [this]
    · simp [hf]; omega

/-- The character being received is complete at `t`. -/
theorem State.completesAt_iff {s : State} {t : Nat} : s.engine.receiver.completesAt t = true ↔ s.formed t := by
  unfold State.formed CharReceiver.completesAt
  cases s.engine.receiver <;> simp

/-- A falling edge begins a character: not within one, not before the last one's end, and, after a low stop bit, strictly after
it (R107). -/
theorem CharReceiver.startsAt_iff {r : CharReceiver} {edge : Nat} :
    r.startsAt edge = true ↔ ∃ w, r = .waiting w ∧ if w.heldLow = true then w.free < edge else w.free ≤ edge := by
  unfold CharReceiver.startsAt EdgeWait.startsAt
  cases r with
  | waiting w => cases h : w.heldLow <;> simp [h]
  | inCharacter m => simp

/-- A start bit whose edge begins a character with SBDIR low and before every limit is over, and whose middle comes half a bit
time after it, is valid (R106, R107, R110, R114). -/
theorem Engine.startBitValid_of {e : Engine} {c : Span} (hd : e.sbdir = false) (hr : e.receiver.startsAt c.start = true)
    (hl : ∀ limit : Timer, limit ∈ e.responseTimeout ∨ limit ∈ e.gap ∨ limit ∈ e.drainIdle →
      c.start ≤ limit.start + limit.dur)
    (hc : c.stop = c.start + e.rate.bitTime / 2) : e.startBitValid c = true := by
  have hb : ∀ m : Option Timer, (∀ limit ∈ m, c.start ≤ limit.start + limit.dur) → beforeDue m c.start = true := by
    intro m hm
    cases m with
    | none => rfl
    | some m => exact decide_eq_true (Nat.le_trans (hm m rfl) (Nat.le_add_right _ _))
  have hw : within (e.rate.bitTime / 2) (c.stop - c.start) = true := by
    rw [hc, Nat.add_sub_cancel_left]; simp [within]
  unfold Engine.startBitValid
  simp only [hd, hr, hw, hb _ fun m h => hl m (.inl h), hb _ fun m h => hl m (.inr (.inl h)),
    hb _ fun m h => hl m (.inr (.inr h)), decide_eq_true (show c.start ≤ c.stop by rw [hc]; exact Nat.le_add_right _ _)]
  rfl

theorem Condition.ofCode_iff {b : Byte} {c : Condition} : Condition.ofCode b = some c ↔ b = c.code := by
  constructor
  · unfold Condition.ofCode
    intro h
    split at h
    · cases h; assumption
    split at h
    · cases h; assumption
    split at h
    · cases h; assumption
    split at h
    · cases h; assumption
    · cases h
  · rintro rfl; cases c <;> rfl

/-- A response body is a status record exactly if the part reads it as that record (R178). -/
theorem statusBytes_iff {body : List Byte} {r : StatusRecord} : StatusBytes body r ↔ statusOf body = some r := by
  constructor
  · rintro ⟨flags, f0, f1, n, rest, rfl, h1, h2, h3, h4, h5⟩
    unfold statusOf
    simp only [Condition.ofCode_iff.2 rfl, h1, h2, and_self, if_true, half]
    rw [← h3, ← h4, ← h5]
  · intro h
    unfold statusOf at h
    split at h
    · split at h
      · cases h
      · rename_i c hc
        split at h
        · rename_i hn
          cases h
          exact ⟨_, _, _, _, _, by rw [Condition.ofCode_iff.1 hc], hn.1, hn.2, rfl, rfl, rfl⟩
        · cases h
    · cases h

end Sys2Proof.Machine
end

