-- ==== Sys2Proof/Laws/State.lean ====
section
/-! SUPPORT. What each update of the state does to each field: one lemma per field per update. -/

namespace Sys2Proof.Machine

variable (s : State)

/-! ### updSlot -/

@[simp] theorem State.updSlot_now (i : Slot) (f : SlotRecord → SlotRecord) : (s.updSlot i f).now = s.now := rfl
@[simp] theorem State.updSlot_resetN (i : Slot) (f : SlotRecord → SlotRecord) : (s.updSlot i f).resetN = s.resetN := rfl
@[simp] theorem State.updSlot_hostRate (i : Slot) (f : SlotRecord → SlotRecord) : (s.updSlot i f).hostRate = s.hostRate := rfl
@[simp] theorem State.updSlot_spres (i : Slot) (f : SlotRecord → SlotRecord) : (s.updSlot i f).spres = s.spres := rfl
@[simp] theorem State.updSlot_edges (i : Slot) (f : SlotRecord → SlotRecord) : (s.updSlot i f).edges = s.edges := rfl
@[simp] theorem State.updSlot_classifiers (i : Slot) (f : SlotRecord → SlotRecord) : (s.updSlot i f).classifiers = s.classifiers := rfl
@[simp] theorem State.updSlot_admission (i : Slot) (f : SlotRecord → SlotRecord) : (s.updSlot i f).admission = s.admission := rfl
@[simp] theorem State.updSlot_committed (i : Slot) (f : SlotRecord → SlotRecord) : (s.updSlot i f).committed = s.committed := rfl
@[simp] theorem State.updSlot_enablingCount (i : Slot) (f : SlotRecord → SlotRecord) : (s.updSlot i f).enablingCount = s.enablingCount := rfl
@[simp] theorem State.updSlot_admissionQueue (i : Slot) (f : SlotRecord → SlotRecord) : (s.updSlot i f).admissionQueue = s.admissionQueue := rfl
@[simp] theorem State.updSlot_transactions (i : Slot) (f : SlotRecord → SlotRecord) : (s.updSlot i f).transactions = s.transactions := rfl
@[simp] theorem State.updSlot_inFlight (i : Slot) (f : SlotRecord → SlotRecord) : (s.updSlot i f).inFlight = s.inFlight := rfl
@[simp] theorem State.updSlot_nextTicket (i : Slot) (f : SlotRecord → SlotRecord) : (s.updSlot i f).nextTicket = s.nextTicket := rfl
@[simp] theorem State.updSlot_engine (i : Slot) (f : SlotRecord → SlotRecord) : (s.updSlot i f).engine = s.engine := rfl
@[simp] theorem State.updSlot_cycle (i : Slot) (f : SlotRecord → SlotRecord) : (s.updSlot i f).cycle = s.cycle := rfl
@[simp] theorem State.updSlot_beacons (i : Slot) (f : SlotRecord → SlotRecord) : (s.updSlot i f).beacons = s.beacons := rfl
@[simp] theorem State.updSlot_notes (i : Slot) (f : SlotRecord → SlotRecord) : (s.updSlot i f).notes = s.notes := rfl
@[simp] theorem State.updSlot_nextSeq (i : Slot) (f : SlotRecord → SlotRecord) : (s.updSlot i f).nextSeq = s.nextSeq := rfl
@[simp] theorem State.updSlot_resendTimer (i : Slot) (f : SlotRecord → SlotRecord) : (s.updSlot i f).resendTimer = s.resendTimer := rfl
@[simp] theorem State.updSlot_rx (i : Slot) (f : SlotRecord → SlotRecord) : (s.updSlot i f).rx = s.rx := rfl
@[simp] theorem State.updSlot_hrxd (i : Slot) (f : SlotRecord → SlotRecord) : (s.updSlot i f).hrxd = s.hrxd := rfl
@[simp] theorem State.updSlot_rxGap (i : Slot) (f : SlotRecord → SlotRecord) : (s.updSlot i f).rxGap = s.rxGap := rfl
@[simp] theorem State.updSlot_intake (i : Slot) (f : SlotRecord → SlotRecord) : (s.updSlot i f).intake = s.intake := rfl
@[simp] theorem State.updSlot_cache (i : Slot) (f : SlotRecord → SlotRecord) : (s.updSlot i f).cache = s.cache := rfl
@[simp] theorem State.updSlot_tx (i : Slot) (f : SlotRecord → SlotRecord) : (s.updSlot i f).tx = s.tx := rfl
@[simp] theorem State.updSlot_restartPending (i : Slot) (f : SlotRecord → SlotRecord) : (s.updSlot i f).restartPending = s.restartPending := rfl
@[simp] theorem State.updSlot_params (i : Slot) (f : SlotRecord → SlotRecord) : (s.updSlot i f).params = s.params := rfl
@[simp] theorem State.updSlot_partCounters (i : Slot) (f : SlotRecord → SlotRecord) : (s.updSlot i f).partCounters = s.partCounters := rfl
@[simp] theorem State.updSlot_slotCounters (i : Slot) (f : SlotRecord → SlotRecord) : (s.updSlot i f).slotCounters = s.slotCounters := rfl
@[simp] theorem State.updSlot_pending (i : Slot) (f : SlotRecord → SlotRecord) : (s.updSlot i f).pending = s.pending := rfl

/-! ### setClassifier -/

@[simp] theorem State.setClassifier_now (i : Slot) (c : Classifier) : (s.setClassifier i c).now = s.now := rfl
@[simp] theorem State.setClassifier_resetN (i : Slot) (c : Classifier) : (s.setClassifier i c).resetN = s.resetN := rfl
@[simp] theorem State.setClassifier_hostRate (i : Slot) (c : Classifier) : (s.setClassifier i c).hostRate = s.hostRate := rfl
@[simp] theorem State.setClassifier_spres (i : Slot) (c : Classifier) : (s.setClassifier i c).spres = s.spres := rfl
@[simp] theorem State.setClassifier_edges (i : Slot) (c : Classifier) : (s.setClassifier i c).edges = s.edges := rfl
@[simp] theorem State.setClassifier_slots (i : Slot) (c : Classifier) : (s.setClassifier i c).slots = s.slots := rfl
@[simp] theorem State.setClassifier_admission (i : Slot) (c : Classifier) : (s.setClassifier i c).admission = s.admission := rfl
@[simp] theorem State.setClassifier_committed (i : Slot) (c : Classifier) : (s.setClassifier i c).committed = s.committed := rfl
@[simp] theorem State.setClassifier_enablingCount (i : Slot) (c : Classifier) : (s.setClassifier i c).enablingCount = s.enablingCount := rfl
@[simp] theorem State.setClassifier_admissionQueue (i : Slot) (c : Classifier) : (s.setClassifier i c).admissionQueue = s.admissionQueue := rfl
@[simp] theorem State.setClassifier_transactions (i : Slot) (c : Classifier) : (s.setClassifier i c).transactions = s.transactions := rfl
@[simp] theorem State.setClassifier_inFlight (i : Slot) (c : Classifier) : (s.setClassifier i c).inFlight = s.inFlight := rfl
@[simp] theorem State.setClassifier_nextTicket (i : Slot) (c : Classifier) : (s.setClassifier i c).nextTicket = s.nextTicket := rfl
@[simp] theorem State.setClassifier_engine (i : Slot) (c : Classifier) : (s.setClassifier i c).engine = s.engine := rfl
@[simp] theorem State.setClassifier_cycle (i : Slot) (c : Classifier) : (s.setClassifier i c).cycle = s.cycle := rfl
@[simp] theorem State.setClassifier_beacons (i : Slot) (c : Classifier) : (s.setClassifier i c).beacons = s.beacons := rfl
@[simp] theorem State.setClassifier_notes (i : Slot) (c : Classifier) : (s.setClassifier i c).notes = s.notes := rfl
@[simp] theorem State.setClassifier_nextSeq (i : Slot) (c : Classifier) : (s.setClassifier i c).nextSeq = s.nextSeq := rfl
@[simp] theorem State.setClassifier_resendTimer (i : Slot) (c : Classifier) : (s.setClassifier i c).resendTimer = s.resendTimer := rfl
@[simp] theorem State.setClassifier_rx (i : Slot) (c : Classifier) : (s.setClassifier i c).rx = s.rx := rfl
@[simp] theorem State.setClassifier_hrxd (i : Slot) (c : Classifier) : (s.setClassifier i c).hrxd = s.hrxd := rfl
@[simp] theorem State.setClassifier_rxGap (i : Slot) (c : Classifier) : (s.setClassifier i c).rxGap = s.rxGap := rfl
@[simp] theorem State.setClassifier_intake (i : Slot) (c : Classifier) : (s.setClassifier i c).intake = s.intake := rfl
@[simp] theorem State.setClassifier_cache (i : Slot) (c : Classifier) : (s.setClassifier i c).cache = s.cache := rfl
@[simp] theorem State.setClassifier_tx (i : Slot) (c : Classifier) : (s.setClassifier i c).tx = s.tx := rfl
@[simp] theorem State.setClassifier_restartPending (i : Slot) (c : Classifier) : (s.setClassifier i c).restartPending = s.restartPending := rfl
@[simp] theorem State.setClassifier_params (i : Slot) (c : Classifier) : (s.setClassifier i c).params = s.params := rfl
@[simp] theorem State.setClassifier_partCounters (i : Slot) (c : Classifier) : (s.setClassifier i c).partCounters = s.partCounters := rfl
@[simp] theorem State.setClassifier_slotCounters (i : Slot) (c : Classifier) : (s.setClassifier i c).slotCounters = s.slotCounters := rfl
@[simp] theorem State.setClassifier_pending (i : Slot) (c : Classifier) : (s.setClassifier i c).pending = s.pending := rfl

/-! ### setLine -/

@[simp] theorem State.setLine_now (i : Slot) (level : Bool) : (s.setLine i level).now = s.now := rfl
@[simp] theorem State.setLine_resetN (i : Slot) (level : Bool) : (s.setLine i level).resetN = s.resetN := rfl
@[simp] theorem State.setLine_hostRate (i : Slot) (level : Bool) : (s.setLine i level).hostRate = s.hostRate := rfl
@[simp] theorem State.setLine_classifiers (i : Slot) (level : Bool) : (s.setLine i level).classifiers = s.classifiers := rfl
@[simp] theorem State.setLine_slots (i : Slot) (level : Bool) : (s.setLine i level).slots = s.slots := rfl
@[simp] theorem State.setLine_admission (i : Slot) (level : Bool) : (s.setLine i level).admission = s.admission := rfl
@[simp] theorem State.setLine_committed (i : Slot) (level : Bool) : (s.setLine i level).committed = s.committed := rfl
@[simp] theorem State.setLine_enablingCount (i : Slot) (level : Bool) : (s.setLine i level).enablingCount = s.enablingCount := rfl
@[simp] theorem State.setLine_admissionQueue (i : Slot) (level : Bool) : (s.setLine i level).admissionQueue = s.admissionQueue := rfl
@[simp] theorem State.setLine_transactions (i : Slot) (level : Bool) : (s.setLine i level).transactions = s.transactions := rfl
@[simp] theorem State.setLine_inFlight (i : Slot) (level : Bool) : (s.setLine i level).inFlight = s.inFlight := rfl
@[simp] theorem State.setLine_nextTicket (i : Slot) (level : Bool) : (s.setLine i level).nextTicket = s.nextTicket := rfl
@[simp] theorem State.setLine_engine (i : Slot) (level : Bool) : (s.setLine i level).engine = s.engine := rfl
@[simp] theorem State.setLine_cycle (i : Slot) (level : Bool) : (s.setLine i level).cycle = s.cycle := rfl
@[simp] theorem State.setLine_beacons (i : Slot) (level : Bool) : (s.setLine i level).beacons = s.beacons := rfl
@[simp] theorem State.setLine_notes (i : Slot) (level : Bool) : (s.setLine i level).notes = s.notes := rfl
@[simp] theorem State.setLine_nextSeq (i : Slot) (level : Bool) : (s.setLine i level).nextSeq = s.nextSeq := rfl
@[simp] theorem State.setLine_resendTimer (i : Slot) (level : Bool) : (s.setLine i level).resendTimer = s.resendTimer := rfl
@[simp] theorem State.setLine_rx (i : Slot) (level : Bool) : (s.setLine i level).rx = s.rx := rfl
@[simp] theorem State.setLine_hrxd (i : Slot) (level : Bool) : (s.setLine i level).hrxd = s.hrxd := rfl
@[simp] theorem State.setLine_rxGap (i : Slot) (level : Bool) : (s.setLine i level).rxGap = s.rxGap := rfl
@[simp] theorem State.setLine_intake (i : Slot) (level : Bool) : (s.setLine i level).intake = s.intake := rfl
@[simp] theorem State.setLine_cache (i : Slot) (level : Bool) : (s.setLine i level).cache = s.cache := rfl
@[simp] theorem State.setLine_tx (i : Slot) (level : Bool) : (s.setLine i level).tx = s.tx := rfl
@[simp] theorem State.setLine_restartPending (i : Slot) (level : Bool) : (s.setLine i level).restartPending = s.restartPending := rfl
@[simp] theorem State.setLine_params (i : Slot) (level : Bool) : (s.setLine i level).params = s.params := rfl
@[simp] theorem State.setLine_partCounters (i : Slot) (level : Bool) : (s.setLine i level).partCounters = s.partCounters := rfl
@[simp] theorem State.setLine_slotCounters (i : Slot) (level : Bool) : (s.setLine i level).slotCounters = s.slotCounters := rfl
@[simp] theorem State.setLine_pending (i : Slot) (level : Bool) : (s.setLine i level).pending = s.pending := rfl

/-! ### setBeacon -/

@[simp] theorem State.setBeacon_now (k : Fin 8) (b : BeaconRecord) : (s.setBeacon k b).now = s.now := rfl
@[simp] theorem State.setBeacon_resetN (k : Fin 8) (b : BeaconRecord) : (s.setBeacon k b).resetN = s.resetN := rfl
@[simp] theorem State.setBeacon_hostRate (k : Fin 8) (b : BeaconRecord) : (s.setBeacon k b).hostRate = s.hostRate := rfl
@[simp] theorem State.setBeacon_spres (k : Fin 8) (b : BeaconRecord) : (s.setBeacon k b).spres = s.spres := rfl
@[simp] theorem State.setBeacon_edges (k : Fin 8) (b : BeaconRecord) : (s.setBeacon k b).edges = s.edges := rfl
@[simp] theorem State.setBeacon_classifiers (k : Fin 8) (b : BeaconRecord) : (s.setBeacon k b).classifiers = s.classifiers := rfl
@[simp] theorem State.setBeacon_slots (k : Fin 8) (b : BeaconRecord) : (s.setBeacon k b).slots = s.slots := rfl
@[simp] theorem State.setBeacon_admission (k : Fin 8) (b : BeaconRecord) : (s.setBeacon k b).admission = s.admission := rfl
@[simp] theorem State.setBeacon_committed (k : Fin 8) (b : BeaconRecord) : (s.setBeacon k b).committed = s.committed := rfl
@[simp] theorem State.setBeacon_enablingCount (k : Fin 8) (b : BeaconRecord) : (s.setBeacon k b).enablingCount = s.enablingCount := rfl
@[simp] theorem State.setBeacon_admissionQueue (k : Fin 8) (b : BeaconRecord) : (s.setBeacon k b).admissionQueue = s.admissionQueue := rfl
@[simp] theorem State.setBeacon_transactions (k : Fin 8) (b : BeaconRecord) : (s.setBeacon k b).transactions = s.transactions := rfl
@[simp] theorem State.setBeacon_inFlight (k : Fin 8) (b : BeaconRecord) : (s.setBeacon k b).inFlight = s.inFlight := rfl
@[simp] theorem State.setBeacon_nextTicket (k : Fin 8) (b : BeaconRecord) : (s.setBeacon k b).nextTicket = s.nextTicket := rfl
@[simp] theorem State.setBeacon_engine (k : Fin 8) (b : BeaconRecord) : (s.setBeacon k b).engine = s.engine := rfl
@[simp] theorem State.setBeacon_cycle (k : Fin 8) (b : BeaconRecord) : (s.setBeacon k b).cycle = s.cycle := rfl
@[simp] theorem State.setBeacon_notes (k : Fin 8) (b : BeaconRecord) : (s.setBeacon k b).notes = s.notes := rfl
@[simp] theorem State.setBeacon_nextSeq (k : Fin 8) (b : BeaconRecord) : (s.setBeacon k b).nextSeq = s.nextSeq := rfl
@[simp] theorem State.setBeacon_resendTimer (k : Fin 8) (b : BeaconRecord) : (s.setBeacon k b).resendTimer = s.resendTimer := rfl
@[simp] theorem State.setBeacon_rx (k : Fin 8) (b : BeaconRecord) : (s.setBeacon k b).rx = s.rx := rfl
@[simp] theorem State.setBeacon_hrxd (k : Fin 8) (b : BeaconRecord) : (s.setBeacon k b).hrxd = s.hrxd := rfl
@[simp] theorem State.setBeacon_rxGap (k : Fin 8) (b : BeaconRecord) : (s.setBeacon k b).rxGap = s.rxGap := rfl
@[simp] theorem State.setBeacon_intake (k : Fin 8) (b : BeaconRecord) : (s.setBeacon k b).intake = s.intake := rfl
@[simp] theorem State.setBeacon_cache (k : Fin 8) (b : BeaconRecord) : (s.setBeacon k b).cache = s.cache := rfl
@[simp] theorem State.setBeacon_tx (k : Fin 8) (b : BeaconRecord) : (s.setBeacon k b).tx = s.tx := rfl
@[simp] theorem State.setBeacon_restartPending (k : Fin 8) (b : BeaconRecord) : (s.setBeacon k b).restartPending = s.restartPending := rfl
@[simp] theorem State.setBeacon_params (k : Fin 8) (b : BeaconRecord) : (s.setBeacon k b).params = s.params := rfl
@[simp] theorem State.setBeacon_partCounters (k : Fin 8) (b : BeaconRecord) : (s.setBeacon k b).partCounters = s.partCounters := rfl
@[simp] theorem State.setBeacon_slotCounters (k : Fin 8) (b : BeaconRecord) : (s.setBeacon k b).slotCounters = s.slotCounters := rfl
@[simp] theorem State.setBeacon_pending (k : Fin 8) (b : BeaconRecord) : (s.setBeacon k b).pending = s.pending := rfl

/-! ### setEntry -/

@[simp] theorem State.setEntry_now (k : Fin 16) (e : AdmissionEntry) : (s.setEntry k e).now = s.now := rfl
@[simp] theorem State.setEntry_resetN (k : Fin 16) (e : AdmissionEntry) : (s.setEntry k e).resetN = s.resetN := rfl
@[simp] theorem State.setEntry_hostRate (k : Fin 16) (e : AdmissionEntry) : (s.setEntry k e).hostRate = s.hostRate := rfl
@[simp] theorem State.setEntry_spres (k : Fin 16) (e : AdmissionEntry) : (s.setEntry k e).spres = s.spres := rfl
@[simp] theorem State.setEntry_edges (k : Fin 16) (e : AdmissionEntry) : (s.setEntry k e).edges = s.edges := rfl
@[simp] theorem State.setEntry_classifiers (k : Fin 16) (e : AdmissionEntry) : (s.setEntry k e).classifiers = s.classifiers := rfl
@[simp] theorem State.setEntry_slots (k : Fin 16) (e : AdmissionEntry) : (s.setEntry k e).slots = s.slots := rfl
@[simp] theorem State.setEntry_committed (k : Fin 16) (e : AdmissionEntry) : (s.setEntry k e).committed = s.committed := rfl
@[simp] theorem State.setEntry_enablingCount (k : Fin 16) (e : AdmissionEntry) : (s.setEntry k e).enablingCount = s.enablingCount := rfl
@[simp] theorem State.setEntry_admissionQueue (k : Fin 16) (e : AdmissionEntry) : (s.setEntry k e).admissionQueue = s.admissionQueue := rfl
@[simp] theorem State.setEntry_transactions (k : Fin 16) (e : AdmissionEntry) : (s.setEntry k e).transactions = s.transactions := rfl
@[simp] theorem State.setEntry_inFlight (k : Fin 16) (e : AdmissionEntry) : (s.setEntry k e).inFlight = s.inFlight := rfl
@[simp] theorem State.setEntry_nextTicket (k : Fin 16) (e : AdmissionEntry) : (s.setEntry k e).nextTicket = s.nextTicket := rfl
@[simp] theorem State.setEntry_engine (k : Fin 16) (e : AdmissionEntry) : (s.setEntry k e).engine = s.engine := rfl
@[simp] theorem State.setEntry_cycle (k : Fin 16) (e : AdmissionEntry) : (s.setEntry k e).cycle = s.cycle := rfl
@[simp] theorem State.setEntry_beacons (k : Fin 16) (e : AdmissionEntry) : (s.setEntry k e).beacons = s.beacons := rfl
@[simp] theorem State.setEntry_notes (k : Fin 16) (e : AdmissionEntry) : (s.setEntry k e).notes = s.notes := rfl
@[simp] theorem State.setEntry_nextSeq (k : Fin 16) (e : AdmissionEntry) : (s.setEntry k e).nextSeq = s.nextSeq := rfl
@[simp] theorem State.setEntry_resendTimer (k : Fin 16) (e : AdmissionEntry) : (s.setEntry k e).resendTimer = s.resendTimer := rfl
@[simp] theorem State.setEntry_rx (k : Fin 16) (e : AdmissionEntry) : (s.setEntry k e).rx = s.rx := rfl
@[simp] theorem State.setEntry_hrxd (k : Fin 16) (e : AdmissionEntry) : (s.setEntry k e).hrxd = s.hrxd := rfl
@[simp] theorem State.setEntry_rxGap (k : Fin 16) (e : AdmissionEntry) : (s.setEntry k e).rxGap = s.rxGap := rfl
@[simp] theorem State.setEntry_intake (k : Fin 16) (e : AdmissionEntry) : (s.setEntry k e).intake = s.intake := rfl
@[simp] theorem State.setEntry_cache (k : Fin 16) (e : AdmissionEntry) : (s.setEntry k e).cache = s.cache := rfl
@[simp] theorem State.setEntry_tx (k : Fin 16) (e : AdmissionEntry) : (s.setEntry k e).tx = s.tx := rfl
@[simp] theorem State.setEntry_restartPending (k : Fin 16) (e : AdmissionEntry) : (s.setEntry k e).restartPending = s.restartPending := rfl
@[simp] theorem State.setEntry_params (k : Fin 16) (e : AdmissionEntry) : (s.setEntry k e).params = s.params := rfl
@[simp] theorem State.setEntry_partCounters (k : Fin 16) (e : AdmissionEntry) : (s.setEntry k e).partCounters = s.partCounters := rfl
@[simp] theorem State.setEntry_slotCounters (k : Fin 16) (e : AdmissionEntry) : (s.setEntry k e).slotCounters = s.slotCounters := rfl
@[simp] theorem State.setEntry_pending (k : Fin 16) (e : AdmissionEntry) : (s.setEntry k e).pending = s.pending := rfl

/-! ### countPart -/

@[simp] theorem State.countPart_now (c : PartCounter) : (s.countPart c).now = s.now := rfl
@[simp] theorem State.countPart_resetN (c : PartCounter) : (s.countPart c).resetN = s.resetN := rfl
@[simp] theorem State.countPart_hostRate (c : PartCounter) : (s.countPart c).hostRate = s.hostRate := rfl
@[simp] theorem State.countPart_spres (c : PartCounter) : (s.countPart c).spres = s.spres := rfl
@[simp] theorem State.countPart_edges (c : PartCounter) : (s.countPart c).edges = s.edges := rfl
@[simp] theorem State.countPart_classifiers (c : PartCounter) : (s.countPart c).classifiers = s.classifiers := rfl
@[simp] theorem State.countPart_slots (c : PartCounter) : (s.countPart c).slots = s.slots := rfl
@[simp] theorem State.countPart_admission (c : PartCounter) : (s.countPart c).admission = s.admission := rfl
@[simp] theorem State.countPart_committed (c : PartCounter) : (s.countPart c).committed = s.committed := rfl
@[simp] theorem State.countPart_enablingCount (c : PartCounter) : (s.countPart c).enablingCount = s.enablingCount := rfl
@[simp] theorem State.countPart_admissionQueue (c : PartCounter) : (s.countPart c).admissionQueue = s.admissionQueue := rfl
@[simp] theorem State.countPart_transactions (c : PartCounter) : (s.countPart c).transactions = s.transactions := rfl
@[simp] theorem State.countPart_inFlight (c : PartCounter) : (s.countPart c).inFlight = s.inFlight := rfl
@[simp] theorem State.countPart_nextTicket (c : PartCounter) : (s.countPart c).nextTicket = s.nextTicket := rfl
@[simp] theorem State.countPart_engine (c : PartCounter) : (s.countPart c).engine = s.engine := rfl
@[simp] theorem State.countPart_cycle (c : PartCounter) : (s.countPart c).cycle = s.cycle := rfl
@[simp] theorem State.countPart_beacons (c : PartCounter) : (s.countPart c).beacons = s.beacons := rfl
@[simp] theorem State.countPart_notes (c : PartCounter) : (s.countPart c).notes = s.notes := rfl
@[simp] theorem State.countPart_nextSeq (c : PartCounter) : (s.countPart c).nextSeq = s.nextSeq := rfl
@[simp] theorem State.countPart_resendTimer (c : PartCounter) : (s.countPart c).resendTimer = s.resendTimer := rfl
@[simp] theorem State.countPart_rx (c : PartCounter) : (s.countPart c).rx = s.rx := rfl
@[simp] theorem State.countPart_hrxd (c : PartCounter) : (s.countPart c).hrxd = s.hrxd := rfl
@[simp] theorem State.countPart_rxGap (c : PartCounter) : (s.countPart c).rxGap = s.rxGap := rfl
@[simp] theorem State.countPart_intake (c : PartCounter) : (s.countPart c).intake = s.intake := rfl
@[simp] theorem State.countPart_cache (c : PartCounter) : (s.countPart c).cache = s.cache := rfl
@[simp] theorem State.countPart_tx (c : PartCounter) : (s.countPart c).tx = s.tx := rfl
@[simp] theorem State.countPart_restartPending (c : PartCounter) : (s.countPart c).restartPending = s.restartPending := rfl
@[simp] theorem State.countPart_params (c : PartCounter) : (s.countPart c).params = s.params := rfl
@[simp] theorem State.countPart_slotCounters (c : PartCounter) : (s.countPart c).slotCounters = s.slotCounters := rfl
@[simp] theorem State.countPart_pending (c : PartCounter) : (s.countPart c).pending = s.pending := rfl

/-! ### countSlot -/

@[simp] theorem State.countSlot_now (i : Slot) (c : SlotCounter) : (s.countSlot i c).now = s.now := rfl
@[simp] theorem State.countSlot_resetN (i : Slot) (c : SlotCounter) : (s.countSlot i c).resetN = s.resetN := rfl
@[simp] theorem State.countSlot_hostRate (i : Slot) (c : SlotCounter) : (s.countSlot i c).hostRate = s.hostRate := rfl
@[simp] theorem State.countSlot_spres (i : Slot) (c : SlotCounter) : (s.countSlot i c).spres = s.spres := rfl
@[simp] theorem State.countSlot_edges (i : Slot) (c : SlotCounter) : (s.countSlot i c).edges = s.edges := rfl
@[simp] theorem State.countSlot_classifiers (i : Slot) (c : SlotCounter) : (s.countSlot i c).classifiers = s.classifiers := rfl
@[simp] theorem State.countSlot_slots (i : Slot) (c : SlotCounter) : (s.countSlot i c).slots = s.slots := rfl
@[simp] theorem State.countSlot_admission (i : Slot) (c : SlotCounter) : (s.countSlot i c).admission = s.admission := rfl
@[simp] theorem State.countSlot_committed (i : Slot) (c : SlotCounter) : (s.countSlot i c).committed = s.committed := rfl
@[simp] theorem State.countSlot_enablingCount (i : Slot) (c : SlotCounter) : (s.countSlot i c).enablingCount = s.enablingCount := rfl
@[simp] theorem State.countSlot_admissionQueue (i : Slot) (c : SlotCounter) : (s.countSlot i c).admissionQueue = s.admissionQueue := rfl
@[simp] theorem State.countSlot_transactions (i : Slot) (c : SlotCounter) : (s.countSlot i c).transactions = s.transactions := rfl
@[simp] theorem State.countSlot_inFlight (i : Slot) (c : SlotCounter) : (s.countSlot i c).inFlight = s.inFlight := rfl
@[simp] theorem State.countSlot_nextTicket (i : Slot) (c : SlotCounter) : (s.countSlot i c).nextTicket = s.nextTicket := rfl
@[simp] theorem State.countSlot_engine (i : Slot) (c : SlotCounter) : (s.countSlot i c).engine = s.engine := rfl
@[simp] theorem State.countSlot_cycle (i : Slot) (c : SlotCounter) : (s.countSlot i c).cycle = s.cycle := rfl
@[simp] theorem State.countSlot_beacons (i : Slot) (c : SlotCounter) : (s.countSlot i c).beacons = s.beacons := rfl
@[simp] theorem State.countSlot_notes (i : Slot) (c : SlotCounter) : (s.countSlot i c).notes = s.notes := rfl
@[simp] theorem State.countSlot_nextSeq (i : Slot) (c : SlotCounter) : (s.countSlot i c).nextSeq = s.nextSeq := rfl
@[simp] theorem State.countSlot_resendTimer (i : Slot) (c : SlotCounter) : (s.countSlot i c).resendTimer = s.resendTimer := rfl
@[simp] theorem State.countSlot_rx (i : Slot) (c : SlotCounter) : (s.countSlot i c).rx = s.rx := rfl
@[simp] theorem State.countSlot_hrxd (i : Slot) (c : SlotCounter) : (s.countSlot i c).hrxd = s.hrxd := rfl
@[simp] theorem State.countSlot_rxGap (i : Slot) (c : SlotCounter) : (s.countSlot i c).rxGap = s.rxGap := rfl
@[simp] theorem State.countSlot_intake (i : Slot) (c : SlotCounter) : (s.countSlot i c).intake = s.intake := rfl
@[simp] theorem State.countSlot_cache (i : Slot) (c : SlotCounter) : (s.countSlot i c).cache = s.cache := rfl
@[simp] theorem State.countSlot_tx (i : Slot) (c : SlotCounter) : (s.countSlot i c).tx = s.tx := rfl
@[simp] theorem State.countSlot_restartPending (i : Slot) (c : SlotCounter) : (s.countSlot i c).restartPending = s.restartPending := rfl
@[simp] theorem State.countSlot_params (i : Slot) (c : SlotCounter) : (s.countSlot i c).params = s.params := rfl
@[simp] theorem State.countSlot_partCounters (i : Slot) (c : SlotCounter) : (s.countSlot i c).partCounters = s.partCounters := rfl
@[simp] theorem State.countSlot_pending (i : Slot) (c : SlotCounter) : (s.countSlot i c).pending = s.pending := rfl

/-! ### store -/

@[simp] theorem State.store_now (n : Note) : (s.store n).now = s.now := rfl
@[simp] theorem State.store_resetN (n : Note) : (s.store n).resetN = s.resetN := rfl
@[simp] theorem State.store_hostRate (n : Note) : (s.store n).hostRate = s.hostRate := rfl
@[simp] theorem State.store_spres (n : Note) : (s.store n).spres = s.spres := rfl
@[simp] theorem State.store_edges (n : Note) : (s.store n).edges = s.edges := rfl
@[simp] theorem State.store_classifiers (n : Note) : (s.store n).classifiers = s.classifiers := rfl
@[simp] theorem State.store_slots (n : Note) : (s.store n).slots = s.slots := rfl
@[simp] theorem State.store_admission (n : Note) : (s.store n).admission = s.admission := rfl
@[simp] theorem State.store_committed (n : Note) : (s.store n).committed = s.committed := rfl
@[simp] theorem State.store_enablingCount (n : Note) : (s.store n).enablingCount = s.enablingCount := rfl
@[simp] theorem State.store_admissionQueue (n : Note) : (s.store n).admissionQueue = s.admissionQueue := rfl
@[simp] theorem State.store_transactions (n : Note) : (s.store n).transactions = s.transactions := rfl
@[simp] theorem State.store_inFlight (n : Note) : (s.store n).inFlight = s.inFlight := rfl
@[simp] theorem State.store_nextTicket (n : Note) : (s.store n).nextTicket = s.nextTicket := rfl
@[simp] theorem State.store_engine (n : Note) : (s.store n).engine = s.engine := rfl
@[simp] theorem State.store_cycle (n : Note) : (s.store n).cycle = s.cycle := rfl
@[simp] theorem State.store_beacons (n : Note) : (s.store n).beacons = s.beacons := rfl
@[simp] theorem State.store_resendTimer (n : Note) : (s.store n).resendTimer = s.resendTimer := rfl
@[simp] theorem State.store_rx (n : Note) : (s.store n).rx = s.rx := rfl
@[simp] theorem State.store_hrxd (n : Note) : (s.store n).hrxd = s.hrxd := rfl
@[simp] theorem State.store_rxGap (n : Note) : (s.store n).rxGap = s.rxGap := rfl
@[simp] theorem State.store_intake (n : Note) : (s.store n).intake = s.intake := rfl
@[simp] theorem State.store_cache (n : Note) : (s.store n).cache = s.cache := rfl
@[simp] theorem State.store_tx (n : Note) : (s.store n).tx = s.tx := rfl
@[simp] theorem State.store_restartPending (n : Note) : (s.store n).restartPending = s.restartPending := rfl
@[simp] theorem State.store_params (n : Note) : (s.store n).params = s.params := rfl
@[simp] theorem State.store_partCounters (n : Note) : (s.store n).partCounters = s.partCounters := rfl
@[simp] theorem State.store_slotCounters (n : Note) : (s.store n).slotCounters = s.slotCounters := rfl
@[simp] theorem State.store_pending (n : Note) : (s.store n).pending = s.pending := rfl

/-! ### enqueue -/

@[simp] theorem State.enqueue_now (x : Transaction) : (s.enqueue x).now = s.now := rfl
@[simp] theorem State.enqueue_resetN (x : Transaction) : (s.enqueue x).resetN = s.resetN := rfl
@[simp] theorem State.enqueue_hostRate (x : Transaction) : (s.enqueue x).hostRate = s.hostRate := rfl
@[simp] theorem State.enqueue_spres (x : Transaction) : (s.enqueue x).spres = s.spres := rfl
@[simp] theorem State.enqueue_edges (x : Transaction) : (s.enqueue x).edges = s.edges := rfl
@[simp] theorem State.enqueue_classifiers (x : Transaction) : (s.enqueue x).classifiers = s.classifiers := rfl
@[simp] theorem State.enqueue_slots (x : Transaction) : (s.enqueue x).slots = s.slots := rfl
@[simp] theorem State.enqueue_admission (x : Transaction) : (s.enqueue x).admission = s.admission := rfl
@[simp] theorem State.enqueue_committed (x : Transaction) : (s.enqueue x).committed = s.committed := rfl
@[simp] theorem State.enqueue_enablingCount (x : Transaction) : (s.enqueue x).enablingCount = s.enablingCount := rfl
@[simp] theorem State.enqueue_admissionQueue (x : Transaction) : (s.enqueue x).admissionQueue = s.admissionQueue := rfl
@[simp] theorem State.enqueue_inFlight (x : Transaction) : (s.enqueue x).inFlight = s.inFlight := rfl
@[simp] theorem State.enqueue_nextTicket (x : Transaction) : (s.enqueue x).nextTicket = s.nextTicket := rfl
@[simp] theorem State.enqueue_engine (x : Transaction) : (s.enqueue x).engine = s.engine := rfl
@[simp] theorem State.enqueue_cycle (x : Transaction) : (s.enqueue x).cycle = s.cycle := rfl
@[simp] theorem State.enqueue_beacons (x : Transaction) : (s.enqueue x).beacons = s.beacons := rfl
@[simp] theorem State.enqueue_notes (x : Transaction) : (s.enqueue x).notes = s.notes := rfl
@[simp] theorem State.enqueue_nextSeq (x : Transaction) : (s.enqueue x).nextSeq = s.nextSeq := rfl
@[simp] theorem State.enqueue_resendTimer (x : Transaction) : (s.enqueue x).resendTimer = s.resendTimer := rfl
@[simp] theorem State.enqueue_rx (x : Transaction) : (s.enqueue x).rx = s.rx := rfl
@[simp] theorem State.enqueue_hrxd (x : Transaction) : (s.enqueue x).hrxd = s.hrxd := rfl
@[simp] theorem State.enqueue_rxGap (x : Transaction) : (s.enqueue x).rxGap = s.rxGap := rfl
@[simp] theorem State.enqueue_intake (x : Transaction) : (s.enqueue x).intake = s.intake := rfl
@[simp] theorem State.enqueue_cache (x : Transaction) : (s.enqueue x).cache = s.cache := rfl
@[simp] theorem State.enqueue_tx (x : Transaction) : (s.enqueue x).tx = s.tx := rfl
@[simp] theorem State.enqueue_restartPending (x : Transaction) : (s.enqueue x).restartPending = s.restartPending := rfl
@[simp] theorem State.enqueue_params (x : Transaction) : (s.enqueue x).params = s.params := rfl
@[simp] theorem State.enqueue_partCounters (x : Transaction) : (s.enqueue x).partCounters = s.partCounters := rfl
@[simp] theorem State.enqueue_slotCounters (x : Transaction) : (s.enqueue x).slotCounters = s.slotCounters := rfl
@[simp] theorem State.enqueue_pending (x : Transaction) : (s.enqueue x).pending = s.pending := rfl

/-! ### hunt -/

@[simp] theorem State.hunt_now : (s.hunt).now = s.now := rfl
@[simp] theorem State.hunt_resetN : (s.hunt).resetN = s.resetN := rfl
@[simp] theorem State.hunt_hostRate : (s.hunt).hostRate = s.hostRate := rfl
@[simp] theorem State.hunt_spres : (s.hunt).spres = s.spres := rfl
@[simp] theorem State.hunt_edges : (s.hunt).edges = s.edges := rfl
@[simp] theorem State.hunt_classifiers : (s.hunt).classifiers = s.classifiers := rfl
@[simp] theorem State.hunt_slots : (s.hunt).slots = s.slots := rfl
@[simp] theorem State.hunt_admission : (s.hunt).admission = s.admission := rfl
@[simp] theorem State.hunt_committed : (s.hunt).committed = s.committed := rfl
@[simp] theorem State.hunt_enablingCount : (s.hunt).enablingCount = s.enablingCount := rfl
@[simp] theorem State.hunt_admissionQueue : (s.hunt).admissionQueue = s.admissionQueue := rfl
@[simp] theorem State.hunt_transactions : (s.hunt).transactions = s.transactions := rfl
@[simp] theorem State.hunt_inFlight : (s.hunt).inFlight = s.inFlight := rfl
@[simp] theorem State.hunt_nextTicket : (s.hunt).nextTicket = s.nextTicket := rfl
@[simp] theorem State.hunt_engine : (s.hunt).engine = s.engine := rfl
@[simp] theorem State.hunt_cycle : (s.hunt).cycle = s.cycle := rfl
@[simp] theorem State.hunt_beacons : (s.hunt).beacons = s.beacons := rfl
@[simp] theorem State.hunt_notes : (s.hunt).notes = s.notes := rfl
@[simp] theorem State.hunt_nextSeq : (s.hunt).nextSeq = s.nextSeq := rfl
@[simp] theorem State.hunt_resendTimer : (s.hunt).resendTimer = s.resendTimer := rfl
@[simp] theorem State.hunt_hrxd : (s.hunt).hrxd = s.hrxd := rfl
@[simp] theorem State.hunt_intake : (s.hunt).intake = s.intake := rfl
@[simp] theorem State.hunt_cache : (s.hunt).cache = s.cache := rfl
@[simp] theorem State.hunt_tx : (s.hunt).tx = s.tx := rfl
@[simp] theorem State.hunt_restartPending : (s.hunt).restartPending = s.restartPending := rfl
@[simp] theorem State.hunt_params : (s.hunt).params = s.params := rfl
@[simp] theorem State.hunt_partCounters : (s.hunt).partCounters = s.partCounters := rfl
@[simp] theorem State.hunt_slotCounters : (s.hunt).slotCounters = s.slotCounters := rfl
@[simp] theorem State.hunt_pending : (s.hunt).pending = s.pending := rfl

/-! ### send -/

@[simp] theorem State.send_now (bytes : List Byte) : (s.send bytes).now = s.now := rfl
@[simp] theorem State.send_resetN (bytes : List Byte) : (s.send bytes).resetN = s.resetN := rfl
@[simp] theorem State.send_hostRate (bytes : List Byte) : (s.send bytes).hostRate = s.hostRate := rfl
@[simp] theorem State.send_spres (bytes : List Byte) : (s.send bytes).spres = s.spres := rfl
@[simp] theorem State.send_edges (bytes : List Byte) : (s.send bytes).edges = s.edges := rfl
@[simp] theorem State.send_classifiers (bytes : List Byte) : (s.send bytes).classifiers = s.classifiers := rfl
@[simp] theorem State.send_slots (bytes : List Byte) : (s.send bytes).slots = s.slots := rfl
@[simp] theorem State.send_admission (bytes : List Byte) : (s.send bytes).admission = s.admission := rfl
@[simp] theorem State.send_committed (bytes : List Byte) : (s.send bytes).committed = s.committed := rfl
@[simp] theorem State.send_enablingCount (bytes : List Byte) : (s.send bytes).enablingCount = s.enablingCount := rfl
@[simp] theorem State.send_admissionQueue (bytes : List Byte) : (s.send bytes).admissionQueue = s.admissionQueue := rfl
@[simp] theorem State.send_transactions (bytes : List Byte) : (s.send bytes).transactions = s.transactions := rfl
@[simp] theorem State.send_inFlight (bytes : List Byte) : (s.send bytes).inFlight = s.inFlight := rfl
@[simp] theorem State.send_nextTicket (bytes : List Byte) : (s.send bytes).nextTicket = s.nextTicket := rfl
@[simp] theorem State.send_engine (bytes : List Byte) : (s.send bytes).engine = s.engine := rfl
@[simp] theorem State.send_cycle (bytes : List Byte) : (s.send bytes).cycle = s.cycle := rfl
@[simp] theorem State.send_beacons (bytes : List Byte) : (s.send bytes).beacons = s.beacons := rfl
@[simp] theorem State.send_notes (bytes : List Byte) : (s.send bytes).notes = s.notes := rfl
@[simp] theorem State.send_nextSeq (bytes : List Byte) : (s.send bytes).nextSeq = s.nextSeq := rfl
@[simp] theorem State.send_resendTimer (bytes : List Byte) : (s.send bytes).resendTimer = s.resendTimer := rfl
@[simp] theorem State.send_rx (bytes : List Byte) : (s.send bytes).rx = s.rx := rfl
@[simp] theorem State.send_hrxd (bytes : List Byte) : (s.send bytes).hrxd = s.hrxd := rfl
@[simp] theorem State.send_rxGap (bytes : List Byte) : (s.send bytes).rxGap = s.rxGap := rfl
@[simp] theorem State.send_intake (bytes : List Byte) : (s.send bytes).intake = s.intake := rfl
@[simp] theorem State.send_cache (bytes : List Byte) : (s.send bytes).cache = s.cache := rfl
@[simp] theorem State.send_restartPending (bytes : List Byte) : (s.send bytes).restartPending = s.restartPending := rfl
@[simp] theorem State.send_params (bytes : List Byte) : (s.send bytes).params = s.params := rfl
@[simp] theorem State.send_partCounters (bytes : List Byte) : (s.send bytes).partCounters = s.partCounters := rfl
@[simp] theorem State.send_slotCounters (bytes : List Byte) : (s.send bytes).slotCounters = s.slotCounters := rfl
@[simp] theorem State.send_pending (bytes : List Byte) : (s.send bytes).pending = s.pending := rfl

/-! ### lineFree -/

@[simp] theorem State.lineFree_now (heldLow : Bool) : (s.lineFree heldLow).now = s.now := rfl
@[simp] theorem State.lineFree_resetN (heldLow : Bool) : (s.lineFree heldLow).resetN = s.resetN := rfl
@[simp] theorem State.lineFree_hostRate (heldLow : Bool) : (s.lineFree heldLow).hostRate = s.hostRate := rfl
@[simp] theorem State.lineFree_spres (heldLow : Bool) : (s.lineFree heldLow).spres = s.spres := rfl
@[simp] theorem State.lineFree_edges (heldLow : Bool) : (s.lineFree heldLow).edges = s.edges := rfl
@[simp] theorem State.lineFree_classifiers (heldLow : Bool) : (s.lineFree heldLow).classifiers = s.classifiers := rfl
@[simp] theorem State.lineFree_slots (heldLow : Bool) : (s.lineFree heldLow).slots = s.slots := rfl
@[simp] theorem State.lineFree_admission (heldLow : Bool) : (s.lineFree heldLow).admission = s.admission := rfl
@[simp] theorem State.lineFree_committed (heldLow : Bool) : (s.lineFree heldLow).committed = s.committed := rfl
@[simp] theorem State.lineFree_enablingCount (heldLow : Bool) : (s.lineFree heldLow).enablingCount = s.enablingCount := rfl
@[simp] theorem State.lineFree_admissionQueue (heldLow : Bool) : (s.lineFree heldLow).admissionQueue = s.admissionQueue := rfl
@[simp] theorem State.lineFree_transactions (heldLow : Bool) : (s.lineFree heldLow).transactions = s.transactions := rfl
@[simp] theorem State.lineFree_inFlight (heldLow : Bool) : (s.lineFree heldLow).inFlight = s.inFlight := rfl
@[simp] theorem State.lineFree_nextTicket (heldLow : Bool) : (s.lineFree heldLow).nextTicket = s.nextTicket := rfl
@[simp] theorem State.lineFree_engine (heldLow : Bool) : (s.lineFree heldLow).engine = s.engine := rfl
@[simp] theorem State.lineFree_cycle (heldLow : Bool) : (s.lineFree heldLow).cycle = s.cycle := rfl
@[simp] theorem State.lineFree_beacons (heldLow : Bool) : (s.lineFree heldLow).beacons = s.beacons := rfl
@[simp] theorem State.lineFree_notes (heldLow : Bool) : (s.lineFree heldLow).notes = s.notes := rfl
@[simp] theorem State.lineFree_nextSeq (heldLow : Bool) : (s.lineFree heldLow).nextSeq = s.nextSeq := rfl
@[simp] theorem State.lineFree_resendTimer (heldLow : Bool) : (s.lineFree heldLow).resendTimer = s.resendTimer := rfl
@[simp] theorem State.lineFree_rx (heldLow : Bool) : (s.lineFree heldLow).rx = s.rx := rfl
@[simp] theorem State.lineFree_rxGap (heldLow : Bool) : (s.lineFree heldLow).rxGap = s.rxGap := rfl
@[simp] theorem State.lineFree_intake (heldLow : Bool) : (s.lineFree heldLow).intake = s.intake := rfl
@[simp] theorem State.lineFree_cache (heldLow : Bool) : (s.lineFree heldLow).cache = s.cache := rfl
@[simp] theorem State.lineFree_tx (heldLow : Bool) : (s.lineFree heldLow).tx = s.tx := rfl
@[simp] theorem State.lineFree_restartPending (heldLow : Bool) : (s.lineFree heldLow).restartPending = s.restartPending := rfl
@[simp] theorem State.lineFree_params (heldLow : Bool) : (s.lineFree heldLow).params = s.params := rfl
@[simp] theorem State.lineFree_partCounters (heldLow : Bool) : (s.lineFree heldLow).partCounters = s.partCounters := rfl
@[simp] theorem State.lineFree_slotCounters (heldLow : Bool) : (s.lineFree heldLow).slotCounters = s.slotCounters := rfl
@[simp] theorem State.lineFree_pending (heldLow : Bool) : (s.lineFree heldLow).pending = s.pending := rfl

/-! ### beginCharacter -/

@[simp] theorem State.beginCharacter_now (edge : Nat) : (s.beginCharacter edge).now = s.now := rfl
@[simp] theorem State.beginCharacter_resetN (edge : Nat) : (s.beginCharacter edge).resetN = s.resetN := rfl
@[simp] theorem State.beginCharacter_hostRate (edge : Nat) : (s.beginCharacter edge).hostRate = s.hostRate := rfl
@[simp] theorem State.beginCharacter_spres (edge : Nat) : (s.beginCharacter edge).spres = s.spres := rfl
@[simp] theorem State.beginCharacter_edges (edge : Nat) : (s.beginCharacter edge).edges = s.edges := rfl
@[simp] theorem State.beginCharacter_classifiers (edge : Nat) : (s.beginCharacter edge).classifiers = s.classifiers := rfl
@[simp] theorem State.beginCharacter_slots (edge : Nat) : (s.beginCharacter edge).slots = s.slots := rfl
@[simp] theorem State.beginCharacter_admission (edge : Nat) : (s.beginCharacter edge).admission = s.admission := rfl
@[simp] theorem State.beginCharacter_committed (edge : Nat) : (s.beginCharacter edge).committed = s.committed := rfl
@[simp] theorem State.beginCharacter_enablingCount (edge : Nat) : (s.beginCharacter edge).enablingCount = s.enablingCount := rfl
@[simp] theorem State.beginCharacter_admissionQueue (edge : Nat) : (s.beginCharacter edge).admissionQueue = s.admissionQueue := rfl
@[simp] theorem State.beginCharacter_transactions (edge : Nat) : (s.beginCharacter edge).transactions = s.transactions := rfl
@[simp] theorem State.beginCharacter_inFlight (edge : Nat) : (s.beginCharacter edge).inFlight = s.inFlight := rfl
@[simp] theorem State.beginCharacter_nextTicket (edge : Nat) : (s.beginCharacter edge).nextTicket = s.nextTicket := rfl
@[simp] theorem State.beginCharacter_cycle (edge : Nat) : (s.beginCharacter edge).cycle = s.cycle := rfl
@[simp] theorem State.beginCharacter_beacons (edge : Nat) : (s.beginCharacter edge).beacons = s.beacons := rfl
@[simp] theorem State.beginCharacter_notes (edge : Nat) : (s.beginCharacter edge).notes = s.notes := rfl
@[simp] theorem State.beginCharacter_nextSeq (edge : Nat) : (s.beginCharacter edge).nextSeq = s.nextSeq := rfl
@[simp] theorem State.beginCharacter_resendTimer (edge : Nat) : (s.beginCharacter edge).resendTimer = s.resendTimer := rfl
@[simp] theorem State.beginCharacter_hrxd (edge : Nat) : (s.beginCharacter edge).hrxd = s.hrxd := rfl
@[simp] theorem State.beginCharacter_rx (edge : Nat) : (s.beginCharacter edge).rx = s.rx := rfl
@[simp] theorem State.beginCharacter_rxGap (edge : Nat) : (s.beginCharacter edge).rxGap = s.rxGap := rfl
@[simp] theorem State.beginCharacter_intake (edge : Nat) : (s.beginCharacter edge).intake = s.intake := rfl
@[simp] theorem State.beginCharacter_cache (edge : Nat) : (s.beginCharacter edge).cache = s.cache := rfl
@[simp] theorem State.beginCharacter_tx (edge : Nat) : (s.beginCharacter edge).tx = s.tx := rfl
@[simp] theorem State.beginCharacter_restartPending (edge : Nat) : (s.beginCharacter edge).restartPending = s.restartPending := rfl
@[simp] theorem State.beginCharacter_params (edge : Nat) : (s.beginCharacter edge).params = s.params := rfl
@[simp] theorem State.beginCharacter_partCounters (edge : Nat) : (s.beginCharacter edge).partCounters = s.partCounters := rfl
@[simp] theorem State.beginCharacter_slotCounters (edge : Nat) : (s.beginCharacter edge).slotCounters = s.slotCounters := rfl
@[simp] theorem State.beginCharacter_pending (edge : Nat) : (s.beginCharacter edge).pending = s.pending := rfl

/-! ### endCharacter -/

@[simp] theorem State.endCharacter_now (c : BusChar) : (s.endCharacter c).now = s.now := rfl
@[simp] theorem State.endCharacter_resetN (c : BusChar) : (s.endCharacter c).resetN = s.resetN := rfl
@[simp] theorem State.endCharacter_hostRate (c : BusChar) : (s.endCharacter c).hostRate = s.hostRate := rfl
@[simp] theorem State.endCharacter_spres (c : BusChar) : (s.endCharacter c).spres = s.spres := rfl
@[simp] theorem State.endCharacter_edges (c : BusChar) : (s.endCharacter c).edges = s.edges := rfl
@[simp] theorem State.endCharacter_classifiers (c : BusChar) : (s.endCharacter c).classifiers = s.classifiers := rfl
@[simp] theorem State.endCharacter_slots (c : BusChar) : (s.endCharacter c).slots = s.slots := rfl
@[simp] theorem State.endCharacter_admission (c : BusChar) : (s.endCharacter c).admission = s.admission := rfl
@[simp] theorem State.endCharacter_committed (c : BusChar) : (s.endCharacter c).committed = s.committed := rfl
@[simp] theorem State.endCharacter_enablingCount (c : BusChar) : (s.endCharacter c).enablingCount = s.enablingCount := rfl
@[simp] theorem State.endCharacter_admissionQueue (c : BusChar) : (s.endCharacter c).admissionQueue = s.admissionQueue := rfl
@[simp] theorem State.endCharacter_transactions (c : BusChar) : (s.endCharacter c).transactions = s.transactions := rfl
@[simp] theorem State.endCharacter_inFlight (c : BusChar) : (s.endCharacter c).inFlight = s.inFlight := rfl
@[simp] theorem State.endCharacter_nextTicket (c : BusChar) : (s.endCharacter c).nextTicket = s.nextTicket := rfl
@[simp] theorem State.endCharacter_cycle (c : BusChar) : (s.endCharacter c).cycle = s.cycle := rfl
@[simp] theorem State.endCharacter_beacons (c : BusChar) : (s.endCharacter c).beacons = s.beacons := rfl
@[simp] theorem State.endCharacter_notes (c : BusChar) : (s.endCharacter c).notes = s.notes := rfl
@[simp] theorem State.endCharacter_nextSeq (c : BusChar) : (s.endCharacter c).nextSeq = s.nextSeq := rfl
@[simp] theorem State.endCharacter_resendTimer (c : BusChar) : (s.endCharacter c).resendTimer = s.resendTimer := rfl
@[simp] theorem State.endCharacter_hrxd (c : BusChar) : (s.endCharacter c).hrxd = s.hrxd := rfl
@[simp] theorem State.endCharacter_rx (c : BusChar) : (s.endCharacter c).rx = s.rx := rfl
@[simp] theorem State.endCharacter_rxGap (c : BusChar) : (s.endCharacter c).rxGap = s.rxGap := rfl
@[simp] theorem State.endCharacter_intake (c : BusChar) : (s.endCharacter c).intake = s.intake := rfl
@[simp] theorem State.endCharacter_cache (c : BusChar) : (s.endCharacter c).cache = s.cache := rfl
@[simp] theorem State.endCharacter_tx (c : BusChar) : (s.endCharacter c).tx = s.tx := rfl
@[simp] theorem State.endCharacter_restartPending (c : BusChar) : (s.endCharacter c).restartPending = s.restartPending := rfl
@[simp] theorem State.endCharacter_params (c : BusChar) : (s.endCharacter c).params = s.params := rfl
@[simp] theorem State.endCharacter_partCounters (c : BusChar) : (s.endCharacter c).partCounters = s.partCounters := rfl
@[simp] theorem State.endCharacter_slotCounters (c : BusChar) : (s.endCharacter c).slotCounters = s.slotCounters := rfl
@[simp] theorem State.endCharacter_pending (c : BusChar) : (s.endCharacter c).pending = s.pending := rfl

/-! ### noEdge -/

@[simp] theorem State.noEdge_now : s.noEdge.now = s.now := rfl
@[simp] theorem State.noEdge_resetN : s.noEdge.resetN = s.resetN := rfl
@[simp] theorem State.noEdge_hostRate : s.noEdge.hostRate = s.hostRate := rfl
@[simp] theorem State.noEdge_spres : s.noEdge.spres = s.spres := rfl
@[simp] theorem State.noEdge_edges : s.noEdge.edges = s.edges := rfl
@[simp] theorem State.noEdge_classifiers : s.noEdge.classifiers = s.classifiers := rfl
@[simp] theorem State.noEdge_slots : s.noEdge.slots = s.slots := rfl
@[simp] theorem State.noEdge_admission : s.noEdge.admission = s.admission := rfl
@[simp] theorem State.noEdge_committed : s.noEdge.committed = s.committed := rfl
@[simp] theorem State.noEdge_enablingCount : s.noEdge.enablingCount = s.enablingCount := rfl
@[simp] theorem State.noEdge_admissionQueue : s.noEdge.admissionQueue = s.admissionQueue := rfl
@[simp] theorem State.noEdge_transactions : s.noEdge.transactions = s.transactions := rfl
@[simp] theorem State.noEdge_inFlight : s.noEdge.inFlight = s.inFlight := rfl
@[simp] theorem State.noEdge_nextTicket : s.noEdge.nextTicket = s.nextTicket := rfl
@[simp] theorem State.noEdge_cycle : s.noEdge.cycle = s.cycle := rfl
@[simp] theorem State.noEdge_beacons : s.noEdge.beacons = s.beacons := rfl
@[simp] theorem State.noEdge_notes : s.noEdge.notes = s.notes := rfl
@[simp] theorem State.noEdge_nextSeq : s.noEdge.nextSeq = s.nextSeq := rfl
@[simp] theorem State.noEdge_resendTimer : s.noEdge.resendTimer = s.resendTimer := rfl
@[simp] theorem State.noEdge_hrxd : s.noEdge.hrxd = s.hrxd := rfl
@[simp] theorem State.noEdge_rx : s.noEdge.rx = s.rx := rfl
@[simp] theorem State.noEdge_rxGap : s.noEdge.rxGap = s.rxGap := rfl
@[simp] theorem State.noEdge_intake : s.noEdge.intake = s.intake := rfl
@[simp] theorem State.noEdge_cache : s.noEdge.cache = s.cache := rfl
@[simp] theorem State.noEdge_tx : s.noEdge.tx = s.tx := rfl
@[simp] theorem State.noEdge_restartPending : s.noEdge.restartPending = s.restartPending := rfl
@[simp] theorem State.noEdge_params : s.noEdge.params = s.params := rfl
@[simp] theorem State.noEdge_partCounters : s.noEdge.partCounters = s.partCounters := rfl
@[simp] theorem State.noEdge_slotCounters : s.noEdge.slotCounters = s.slotCounters := rfl
@[simp] theorem State.noEdge_pending : s.noEdge.pending = s.pending := rfl

/-! ### Reading what was written -/

@[simp] theorem State.updSlot_slot_self (i : Slot) (f : SlotRecord → SlotRecord) :
    (s.updSlot i f).slot i = f (s.slot i) := by simp [State.updSlot, State.slot]

theorem State.updSlot_slot_ne {i j : Slot} (h : j ≠ i) (f : SlotRecord → SlotRecord) :
    (s.updSlot i f).slot j = s.slot j := by
  have h' : (i : Nat) ≠ (j : Nat) := fun e => h (Fin.ext e.symm)
  simp [State.updSlot, State.slot, Vector.getElem_set_ne, h']

theorem State.updSlot_slot (i j : Slot) (f : SlotRecord → SlotRecord) :
    (s.updSlot i f).slot j = if j = i then f (s.slot i) else s.slot j := by
  split
  · next h => subst h; exact s.updSlot_slot_self _ f
  · next h => exact s.updSlot_slot_ne h f

@[simp] theorem State.setClassifier_self (i : Slot) (c : Classifier) : (s.setClassifier i c).classifier i = c := by
  simp [State.setClassifier, State.classifier]

theorem State.setClassifier_ne {i j : Slot} (h : j ≠ i) (c : Classifier) :
    (s.setClassifier i c).classifier j = s.classifier j := by
  have h' : (i : Nat) ≠ (j : Nat) := fun e => h (Fin.ext e.symm)
  simp [State.setClassifier, State.classifier, Vector.getElem_set_ne, h']

/-- The level and the sample that `setLine` writes (R32). -/
theorem State.setLine_sampled (i : Slot) (level : Bool) : Sampled s (s.setLine i level) s.now i level := ⟨rfl, rfl⟩

@[simp] theorem State.lineFree_self (heldLow : Bool) : (s.lineFree heldLow).hrxd = { free := s.now, heldLow := heldLow } :=
  rfl

@[simp] theorem State.setBeacon_self (k : Fin 8) (b : BeaconRecord) : (s.setBeacon k b).beacon k = b := by
  simp [State.setBeacon, State.beacon]

theorem State.setBeacon_ne {k j : Fin 8} (h : j ≠ k) (b : BeaconRecord) :
    (s.setBeacon k b).beacon j = s.beacon j := by
  have h' : (k : Nat) ≠ (j : Nat) := fun e => h (Fin.ext e.symm)
  simp [State.setBeacon, State.beacon, Vector.getElem_set_ne, h']

@[simp] theorem State.setEntry_self (k : Fin 16) (e : AdmissionEntry) : (s.setEntry k e).entry k = e := by
  simp [State.setEntry, State.entry]

theorem PartCounter.index_inj {c d : PartCounter} (h : c.index = d.index) : c = d := by
  revert h; cases c <;> cases d <;> decide

theorem SlotCounter.index_inj {c d : SlotCounter} (h : c.index = d.index) : c = d := by
  revert h; cases c <;> cases d <;> decide

theorem State.countPart_count (c d : PartCounter) :
    (s.countPart c).partCount d = if d = c then satInc (s.partCount c) else s.partCount d := by
  split
  · next h => subst h; simp [State.countPart, State.partCount]
  · next h =>
    have h' : (c.index : Nat) ≠ (d.index : Nat) := fun e => h (PartCounter.index_inj (Fin.ext e.symm))
    simp [State.countPart, State.partCount, Vector.getElem_set_ne, h']

theorem State.countSlot_count (i j : Slot) (c d : SlotCounter) :
    (s.countSlot i c).slotCount j d = if j = i ∧ d = c then satInc (s.slotCount i c) else s.slotCount j d := by
  by_cases hi : j = i
  · subst hi
    by_cases hc : d = c
    · subst hc; simp [State.countSlot, State.slotCount]
    · have h' : (c.index : Nat) ≠ (d.index : Nat) := fun e => hc (SlotCounter.index_inj (Fin.ext e.symm))
      simp [State.countSlot, State.slotCount, Vector.getElem_set_ne, h', hc]
  · have h' : (i : Nat) ≠ (j : Nat) := fun e => hi (Fin.ext e.symm)
    simp [State.countSlot, State.slotCount, Vector.getElem_set_ne, h', hi]

theorem State.countSlot_counted (i : Slot) (c : SlotCounter) : Counted s (s.countSlot i c) i c := by
  refine ⟨by simp [State.countSlot_count], fun j d h => ?_⟩
  rw [State.countSlot_count, if_neg]
  rintro ⟨rfl, rfl⟩
  simp at h

theorem State.countPart_counted (c : PartCounter) : PartCounted s (s.countPart c) c := by
  refine ⟨by simp [State.countPart_count], fun d h => ?_⟩
  rw [State.countPart_count, if_neg h]

end Sys2Proof.Machine
end

