-- ==== Sys2Proof/Laws/Frames.lean ====
section
/-! SUPPORT. What the shared operations leave alone: raising a notification, a change of slot state, an examination, the
transmitter's decision, and the end of an event. -/

namespace Sys2Proof.Machine

variable (s : State)

/-! ### Raising notifications (R138, R139) -/

/-- All that raising a notification can change. -/
theorem State.raise_frame (n : Note) :
    s.raise n
      = { s with notes := (s.raise n).notes, nextSeq := (s.raise n).nextSeq, partCounters := (s.raise n).partCounters } := by
  unfold State.raise State.lose State.markLoss
  repeat' split
  all_goals rfl

@[simp] theorem State.raise_now (n : Note) : (s.raise n).now = s.now := by rw [State.raise_frame]
@[simp] theorem State.raise_resetN (n : Note) : (s.raise n).resetN = s.resetN := by rw [State.raise_frame]
@[simp] theorem State.raise_hostRate (n : Note) : (s.raise n).hostRate = s.hostRate := by rw [State.raise_frame]
@[simp] theorem State.raise_spres (n : Note) : (s.raise n).spres = s.spres := by rw [State.raise_frame]
@[simp] theorem State.raise_edges (n : Note) : (s.raise n).edges = s.edges := by rw [State.raise_frame]
@[simp] theorem State.raise_classifiers (n : Note) : (s.raise n).classifiers = s.classifiers := by rw [State.raise_frame]
@[simp] theorem State.raise_slots (n : Note) : (s.raise n).slots = s.slots := by rw [State.raise_frame]
@[simp] theorem State.raise_admission (n : Note) : (s.raise n).admission = s.admission := by rw [State.raise_frame]
@[simp] theorem State.raise_committed (n : Note) : (s.raise n).committed = s.committed := by rw [State.raise_frame]
@[simp] theorem State.raise_enablingCount (n : Note) : (s.raise n).enablingCount = s.enablingCount := by rw [State.raise_frame]
@[simp] theorem State.raise_admissionQueue (n : Note) : (s.raise n).admissionQueue = s.admissionQueue := by rw [State.raise_frame]
@[simp] theorem State.raise_transactions (n : Note) : (s.raise n).transactions = s.transactions := by rw [State.raise_frame]
@[simp] theorem State.raise_inFlight (n : Note) : (s.raise n).inFlight = s.inFlight := by rw [State.raise_frame]
@[simp] theorem State.raise_nextTicket (n : Note) : (s.raise n).nextTicket = s.nextTicket := by rw [State.raise_frame]
@[simp] theorem State.raise_engine (n : Note) : (s.raise n).engine = s.engine := by rw [State.raise_frame]
@[simp] theorem State.raise_cycle (n : Note) : (s.raise n).cycle = s.cycle := by rw [State.raise_frame]
@[simp] theorem State.raise_beacons (n : Note) : (s.raise n).beacons = s.beacons := by rw [State.raise_frame]
@[simp] theorem State.raise_resendTimer (n : Note) : (s.raise n).resendTimer = s.resendTimer := by rw [State.raise_frame]
@[simp] theorem State.raise_rx (n : Note) : (s.raise n).rx = s.rx := by rw [State.raise_frame]
@[simp] theorem State.raise_hrxd (n : Note) : (s.raise n).hrxd = s.hrxd := by rw [State.raise_frame]
@[simp] theorem State.raise_rxGap (n : Note) : (s.raise n).rxGap = s.rxGap := by rw [State.raise_frame]
@[simp] theorem State.raise_intake (n : Note) : (s.raise n).intake = s.intake := by rw [State.raise_frame]
@[simp] theorem State.raise_cache (n : Note) : (s.raise n).cache = s.cache := by rw [State.raise_frame]
@[simp] theorem State.raise_tx (n : Note) : (s.raise n).tx = s.tx := by rw [State.raise_frame]
@[simp] theorem State.raise_restartPending (n : Note) : (s.raise n).restartPending = s.restartPending := by rw [State.raise_frame]
@[simp] theorem State.raise_params (n : Note) : (s.raise n).params = s.params := by rw [State.raise_frame]
@[simp] theorem State.raise_slotCounters (n : Note) : (s.raise n).slotCounters = s.slotCounters := by rw [State.raise_frame]
@[simp] theorem State.raise_pending (n : Note) : (s.raise n).pending = s.pending := by rw [State.raise_frame]

/-- With room in the list the notification is stored (R138). -/
theorem State.raise_room (n : Note) (h : s.notes.length ≤ Config.noteRoom) : s.raise n = s.store n := if_pos h

theorem State.mem_raise {m : Note} (n : Note) (h : m ∈ s.notes.map NoteEntry.note)
    (hl : s.notes.length ≤ Config.noteRoom) : m ∈ (s.raise n).notes.map NoteEntry.note := by
  rw [State.raise_room s n hl]; simp only [State.store, List.map_append, List.mem_append]; exact Or.inl h

theorem State.raise_mem (n : Note) (h : s.notes.length ≤ Config.noteRoom) :
    n ∈ (s.raise n).notes.map NoteEntry.note := by
  rw [State.raise_room s n h]; simp [State.store]

/-- Only NOTES_LOST can rise. -/
theorem State.raise_partCount (n : Note) {c : PartCounter} (h : c ≠ .notesLost) :
    (s.raise n).partCount c = s.partCount c := by
  have key : (s.countPart .notesLost).partCount c = s.partCount c := by rw [State.countPart_count, if_neg h]
  unfold State.raise State.lose State.markLoss
  repeat' split
  all_goals first | rfl | exact key

/-- All that raising several notifications can change. -/
theorem State.raiseAll_frame (ns : List Note) :
    s.raiseAll ns
      = { s with notes := (s.raiseAll ns).notes, nextSeq := (s.raiseAll ns).nextSeq
                 partCounters := (s.raiseAll ns).partCounters } := by
  induction ns generalizing s with
  | nil => rfl
  | cons n rest ih => simp only [State.raiseAll]; rw [ih (s.raise n), State.raise_frame s n]

@[simp] theorem State.raiseAll_now (ns : List Note) : (s.raiseAll ns).now = s.now := by rw [State.raiseAll_frame]
@[simp] theorem State.raiseAll_resetN (ns : List Note) : (s.raiseAll ns).resetN = s.resetN := by rw [State.raiseAll_frame]
@[simp] theorem State.raiseAll_hostRate (ns : List Note) : (s.raiseAll ns).hostRate = s.hostRate := by rw [State.raiseAll_frame]
@[simp] theorem State.raiseAll_spres (ns : List Note) : (s.raiseAll ns).spres = s.spres := by rw [State.raiseAll_frame]
@[simp] theorem State.raiseAll_edges (ns : List Note) : (s.raiseAll ns).edges = s.edges := by rw [State.raiseAll_frame]
@[simp] theorem State.raiseAll_classifiers (ns : List Note) : (s.raiseAll ns).classifiers = s.classifiers := by rw [State.raiseAll_frame]
@[simp] theorem State.raiseAll_slots (ns : List Note) : (s.raiseAll ns).slots = s.slots := by rw [State.raiseAll_frame]
@[simp] theorem State.raiseAll_admission (ns : List Note) : (s.raiseAll ns).admission = s.admission := by rw [State.raiseAll_frame]
@[simp] theorem State.raiseAll_committed (ns : List Note) : (s.raiseAll ns).committed = s.committed := by rw [State.raiseAll_frame]
@[simp] theorem State.raiseAll_enablingCount (ns : List Note) : (s.raiseAll ns).enablingCount = s.enablingCount := by rw [State.raiseAll_frame]
@[simp] theorem State.raiseAll_admissionQueue (ns : List Note) : (s.raiseAll ns).admissionQueue = s.admissionQueue := by rw [State.raiseAll_frame]
@[simp] theorem State.raiseAll_transactions (ns : List Note) : (s.raiseAll ns).transactions = s.transactions := by rw [State.raiseAll_frame]
@[simp] theorem State.raiseAll_inFlight (ns : List Note) : (s.raiseAll ns).inFlight = s.inFlight := by rw [State.raiseAll_frame]
@[simp] theorem State.raiseAll_nextTicket (ns : List Note) : (s.raiseAll ns).nextTicket = s.nextTicket := by rw [State.raiseAll_frame]
@[simp] theorem State.raiseAll_engine (ns : List Note) : (s.raiseAll ns).engine = s.engine := by rw [State.raiseAll_frame]
@[simp] theorem State.raiseAll_cycle (ns : List Note) : (s.raiseAll ns).cycle = s.cycle := by rw [State.raiseAll_frame]
@[simp] theorem State.raiseAll_beacons (ns : List Note) : (s.raiseAll ns).beacons = s.beacons := by rw [State.raiseAll_frame]
@[simp] theorem State.raiseAll_resendTimer (ns : List Note) : (s.raiseAll ns).resendTimer = s.resendTimer := by rw [State.raiseAll_frame]
@[simp] theorem State.raiseAll_rx (ns : List Note) : (s.raiseAll ns).rx = s.rx := by rw [State.raiseAll_frame]
@[simp] theorem State.raiseAll_hrxd (ns : List Note) : (s.raiseAll ns).hrxd = s.hrxd := by rw [State.raiseAll_frame]
@[simp] theorem State.raiseAll_rxGap (ns : List Note) : (s.raiseAll ns).rxGap = s.rxGap := by rw [State.raiseAll_frame]
@[simp] theorem State.raiseAll_intake (ns : List Note) : (s.raiseAll ns).intake = s.intake := by rw [State.raiseAll_frame]
@[simp] theorem State.raiseAll_cache (ns : List Note) : (s.raiseAll ns).cache = s.cache := by rw [State.raiseAll_frame]
@[simp] theorem State.raiseAll_tx (ns : List Note) : (s.raiseAll ns).tx = s.tx := by rw [State.raiseAll_frame]
@[simp] theorem State.raiseAll_restartPending (ns : List Note) : (s.raiseAll ns).restartPending = s.restartPending := by rw [State.raiseAll_frame]
@[simp] theorem State.raiseAll_params (ns : List Note) : (s.raiseAll ns).params = s.params := by rw [State.raiseAll_frame]
@[simp] theorem State.raiseAll_slotCounters (ns : List Note) : (s.raiseAll ns).slotCounters = s.slotCounters := by rw [State.raiseAll_frame]
@[simp] theorem State.raiseAll_pending (ns : List Note) : (s.raiseAll ns).pending = s.pending := by rw [State.raiseAll_frame]

theorem State.raiseAll_partCount (ns : List Note) {c : PartCounter} (h : c ≠ .notesLost) :
    (s.raiseAll ns).partCount c = s.partCount c := by
  induction ns generalizing s with
  | nil => rfl
  | cons n rest ih => simp only [State.raiseAll]; rw [ih, State.raise_partCount s n h]

/-! ### A change of a slot's state (R3) -/

/-- All that a change of state can change. -/
theorem State.changeState_frame (i : Slot) (new : SlotState) (why : Reason) :
    s.changeState i new why
      = { s with slots := (s.updSlot i fun r => { r with state := new, reason := why }).slots
                 notes := (s.changeState i new why).notes, nextSeq := (s.changeState i new why).nextSeq
                 partCounters := (s.changeState i new why).partCounters } := by
  simp only [State.changeState]; rw [State.raise_frame]; rfl

@[simp] theorem State.changeState_now (i : Slot) (new : SlotState) (why : Reason) : (s.changeState i new why).now = s.now := by rw [State.changeState_frame]
@[simp] theorem State.changeState_resetN (i : Slot) (new : SlotState) (why : Reason) : (s.changeState i new why).resetN = s.resetN := by rw [State.changeState_frame]
@[simp] theorem State.changeState_hostRate (i : Slot) (new : SlotState) (why : Reason) : (s.changeState i new why).hostRate = s.hostRate := by rw [State.changeState_frame]
@[simp] theorem State.changeState_spres (i : Slot) (new : SlotState) (why : Reason) : (s.changeState i new why).spres = s.spres := by rw [State.changeState_frame]
@[simp] theorem State.changeState_edges (i : Slot) (new : SlotState) (why : Reason) : (s.changeState i new why).edges = s.edges := by rw [State.changeState_frame]
@[simp] theorem State.changeState_classifiers (i : Slot) (new : SlotState) (why : Reason) : (s.changeState i new why).classifiers = s.classifiers := by rw [State.changeState_frame]
@[simp] theorem State.changeState_admission (i : Slot) (new : SlotState) (why : Reason) : (s.changeState i new why).admission = s.admission := by rw [State.changeState_frame]
@[simp] theorem State.changeState_committed (i : Slot) (new : SlotState) (why : Reason) : (s.changeState i new why).committed = s.committed := by rw [State.changeState_frame]
@[simp] theorem State.changeState_enablingCount (i : Slot) (new : SlotState) (why : Reason) : (s.changeState i new why).enablingCount = s.enablingCount := by rw [State.changeState_frame]
@[simp] theorem State.changeState_admissionQueue (i : Slot) (new : SlotState) (why : Reason) : (s.changeState i new why).admissionQueue = s.admissionQueue := by rw [State.changeState_frame]
@[simp] theorem State.changeState_transactions (i : Slot) (new : SlotState) (why : Reason) : (s.changeState i new why).transactions = s.transactions := by rw [State.changeState_frame]
@[simp] theorem State.changeState_inFlight (i : Slot) (new : SlotState) (why : Reason) : (s.changeState i new why).inFlight = s.inFlight := by rw [State.changeState_frame]
@[simp] theorem State.changeState_nextTicket (i : Slot) (new : SlotState) (why : Reason) : (s.changeState i new why).nextTicket = s.nextTicket := by rw [State.changeState_frame]
@[simp] theorem State.changeState_engine (i : Slot) (new : SlotState) (why : Reason) : (s.changeState i new why).engine = s.engine := by rw [State.changeState_frame]
@[simp] theorem State.changeState_cycle (i : Slot) (new : SlotState) (why : Reason) : (s.changeState i new why).cycle = s.cycle := by rw [State.changeState_frame]
@[simp] theorem State.changeState_beacons (i : Slot) (new : SlotState) (why : Reason) : (s.changeState i new why).beacons = s.beacons := by rw [State.changeState_frame]
@[simp] theorem State.changeState_resendTimer (i : Slot) (new : SlotState) (why : Reason) : (s.changeState i new why).resendTimer = s.resendTimer := by rw [State.changeState_frame]
@[simp] theorem State.changeState_rx (i : Slot) (new : SlotState) (why : Reason) : (s.changeState i new why).rx = s.rx := by rw [State.changeState_frame]
@[simp] theorem State.changeState_hrxd (i : Slot) (new : SlotState) (why : Reason) : (s.changeState i new why).hrxd = s.hrxd := by rw [State.changeState_frame]
@[simp] theorem State.changeState_rxGap (i : Slot) (new : SlotState) (why : Reason) : (s.changeState i new why).rxGap = s.rxGap := by rw [State.changeState_frame]
@[simp] theorem State.changeState_intake (i : Slot) (new : SlotState) (why : Reason) : (s.changeState i new why).intake = s.intake := by rw [State.changeState_frame]
@[simp] theorem State.changeState_cache (i : Slot) (new : SlotState) (why : Reason) : (s.changeState i new why).cache = s.cache := by rw [State.changeState_frame]
@[simp] theorem State.changeState_tx (i : Slot) (new : SlotState) (why : Reason) : (s.changeState i new why).tx = s.tx := by rw [State.changeState_frame]
@[simp] theorem State.changeState_restartPending (i : Slot) (new : SlotState) (why : Reason) : (s.changeState i new why).restartPending = s.restartPending := by rw [State.changeState_frame]
@[simp] theorem State.changeState_params (i : Slot) (new : SlotState) (why : Reason) : (s.changeState i new why).params = s.params := by rw [State.changeState_frame]
@[simp] theorem State.changeState_slotCounters (i : Slot) (new : SlotState) (why : Reason) : (s.changeState i new why).slotCounters = s.slotCounters := by rw [State.changeState_frame]
@[simp] theorem State.changeState_pending (i : Slot) (new : SlotState) (why : Reason) : (s.changeState i new why).pending = s.pending := by rw [State.changeState_frame]

theorem State.changeState_slot (i j : Slot) (new : SlotState) (why : Reason) :
    (s.changeState i new why).slot j = if j = i then { s.slot i with state := new, reason := why } else s.slot j := by
  have h : (s.changeState i new why).slot j = (s.updSlot i fun r => { r with state := new, reason := why }).slot j := by
    simp only [State.slot]; rw [State.changeState_frame]
  rw [h, State.updSlot_slot]

@[simp] theorem State.changeState_slot_self (i : Slot) (new : SlotState) (why : Reason) :
    (s.changeState i new why).slot i = { s.slot i with state := new, reason := why } := by
  rw [State.changeState_slot, if_pos rfl]

theorem State.changeState_partCount (i : Slot) (new : SlotState) (why : Reason) {c : PartCounter} (h : c ≠ .notesLost) :
    (s.changeState i new why).partCount c = s.partCount c := by
  simp only [State.changeState]; rw [State.raise_partCount _ _ h]; rfl

/-! ### Examinations (R65, R66) -/

/-- All that an examination can change. -/
theorem State.examineFrom_frame (q : List Slot) :
    s.examineFrom q
      = { s with slots := (s.examineFrom q).slots, admissionQueue := (s.examineFrom q).admissionQueue
                 committed := (s.examineFrom q).committed, enablingCount := (s.examineFrom q).enablingCount
                 notes := (s.examineFrom q).notes, nextSeq := (s.examineFrom q).nextSeq
                 partCounters := (s.examineFrom q).partCounters } := by
  induction q generalizing s with
  | nil => rfl
  | cons i rest ih =>
    simp only [State.examineFrom]
    split
    · rw [ih, State.grant, State.changeState_frame]; rfl
    · rfl

@[simp] theorem State.examineFrom_now (q : List Slot) : (s.examineFrom q).now = s.now := by rw [State.examineFrom_frame]
@[simp] theorem State.examineFrom_resetN (q : List Slot) : (s.examineFrom q).resetN = s.resetN := by rw [State.examineFrom_frame]
@[simp] theorem State.examineFrom_hostRate (q : List Slot) : (s.examineFrom q).hostRate = s.hostRate := by rw [State.examineFrom_frame]
@[simp] theorem State.examineFrom_spres (q : List Slot) : (s.examineFrom q).spres = s.spres := by rw [State.examineFrom_frame]
@[simp] theorem State.examineFrom_edges (q : List Slot) : (s.examineFrom q).edges = s.edges := by rw [State.examineFrom_frame]
@[simp] theorem State.examineFrom_classifiers (q : List Slot) : (s.examineFrom q).classifiers = s.classifiers := by rw [State.examineFrom_frame]
@[simp] theorem State.examineFrom_admission (q : List Slot) : (s.examineFrom q).admission = s.admission := by rw [State.examineFrom_frame]
@[simp] theorem State.examineFrom_transactions (q : List Slot) : (s.examineFrom q).transactions = s.transactions := by rw [State.examineFrom_frame]
@[simp] theorem State.examineFrom_inFlight (q : List Slot) : (s.examineFrom q).inFlight = s.inFlight := by rw [State.examineFrom_frame]
@[simp] theorem State.examineFrom_nextTicket (q : List Slot) : (s.examineFrom q).nextTicket = s.nextTicket := by rw [State.examineFrom_frame]
@[simp] theorem State.examineFrom_engine (q : List Slot) : (s.examineFrom q).engine = s.engine := by rw [State.examineFrom_frame]
@[simp] theorem State.examineFrom_cycle (q : List Slot) : (s.examineFrom q).cycle = s.cycle := by rw [State.examineFrom_frame]
@[simp] theorem State.examineFrom_beacons (q : List Slot) : (s.examineFrom q).beacons = s.beacons := by rw [State.examineFrom_frame]
@[simp] theorem State.examineFrom_resendTimer (q : List Slot) : (s.examineFrom q).resendTimer = s.resendTimer := by rw [State.examineFrom_frame]
@[simp] theorem State.examineFrom_rx (q : List Slot) : (s.examineFrom q).rx = s.rx := by rw [State.examineFrom_frame]
@[simp] theorem State.examineFrom_hrxd (q : List Slot) : (s.examineFrom q).hrxd = s.hrxd := by rw [State.examineFrom_frame]
@[simp] theorem State.examineFrom_rxGap (q : List Slot) : (s.examineFrom q).rxGap = s.rxGap := by rw [State.examineFrom_frame]
@[simp] theorem State.examineFrom_intake (q : List Slot) : (s.examineFrom q).intake = s.intake := by rw [State.examineFrom_frame]
@[simp] theorem State.examineFrom_cache (q : List Slot) : (s.examineFrom q).cache = s.cache := by rw [State.examineFrom_frame]
@[simp] theorem State.examineFrom_tx (q : List Slot) : (s.examineFrom q).tx = s.tx := by rw [State.examineFrom_frame]
@[simp] theorem State.examineFrom_restartPending (q : List Slot) : (s.examineFrom q).restartPending = s.restartPending := by rw [State.examineFrom_frame]
@[simp] theorem State.examineFrom_params (q : List Slot) : (s.examineFrom q).params = s.params := by rw [State.examineFrom_frame]
@[simp] theorem State.examineFrom_slotCounters (q : List Slot) : (s.examineFrom q).slotCounters = s.slotCounters := by rw [State.examineFrom_frame]
@[simp] theorem State.examineFrom_pending (q : List Slot) : (s.examineFrom q).pending = s.pending := by rw [State.examineFrom_frame]

@[simp] theorem State.examine_now : s.examine.now = s.now := s.examineFrom_now _
@[simp] theorem State.examine_resetN : s.examine.resetN = s.resetN := s.examineFrom_resetN _
@[simp] theorem State.examine_hostRate : s.examine.hostRate = s.hostRate := s.examineFrom_hostRate _
@[simp] theorem State.examine_spres : s.examine.spres = s.spres := s.examineFrom_spres _
@[simp] theorem State.examine_edges : s.examine.edges = s.edges := s.examineFrom_edges _
@[simp] theorem State.examine_classifiers : s.examine.classifiers = s.classifiers := s.examineFrom_classifiers _
@[simp] theorem State.examine_admission : s.examine.admission = s.admission := s.examineFrom_admission _
@[simp] theorem State.examine_transactions : s.examine.transactions = s.transactions := s.examineFrom_transactions _
@[simp] theorem State.examine_inFlight : s.examine.inFlight = s.inFlight := s.examineFrom_inFlight _
@[simp] theorem State.examine_nextTicket : s.examine.nextTicket = s.nextTicket := s.examineFrom_nextTicket _
@[simp] theorem State.examine_engine : s.examine.engine = s.engine := s.examineFrom_engine _
@[simp] theorem State.examine_cycle : s.examine.cycle = s.cycle := s.examineFrom_cycle _
@[simp] theorem State.examine_beacons : s.examine.beacons = s.beacons := s.examineFrom_beacons _
@[simp] theorem State.examine_resendTimer : s.examine.resendTimer = s.resendTimer := s.examineFrom_resendTimer _
@[simp] theorem State.examine_rx : s.examine.rx = s.rx := s.examineFrom_rx _
@[simp] theorem State.examine_hrxd : s.examine.hrxd = s.hrxd := s.examineFrom_hrxd _
@[simp] theorem State.examine_rxGap : s.examine.rxGap = s.rxGap := s.examineFrom_rxGap _
@[simp] theorem State.examine_intake : s.examine.intake = s.intake := s.examineFrom_intake _
@[simp] theorem State.examine_cache : s.examine.cache = s.cache := s.examineFrom_cache _
@[simp] theorem State.examine_tx : s.examine.tx = s.tx := s.examineFrom_tx _
@[simp] theorem State.examine_restartPending : s.examine.restartPending = s.restartPending := s.examineFrom_restartPending _
@[simp] theorem State.examine_params : s.examine.params = s.params := s.examineFrom_params _
@[simp] theorem State.examine_slotCounters : s.examine.slotCounters = s.slotCounters := s.examineFrom_slotCounters _
@[simp] theorem State.examine_pending : s.examine.pending = s.pending := s.examineFrom_pending _

/-- A slot that the examined list does not hold keeps its record. -/
theorem State.examineFrom_slot (q : List Slot) {j : Slot} (h : j ∉ q) : (s.examineFrom q).slot j = s.slot j := by
  induction q generalizing s with
  | nil => rfl
  | cons i rest ih =>
    simp only [List.mem_cons, not_or] at h
    simp only [State.examineFrom]
    split
    · rw [ih _ h.2, State.grant, State.changeState_slot, if_neg h.1, State.updSlot_slot, if_neg h.1]; rfl
    · rfl

theorem State.examine_slot {j : Slot} (h : j ∉ s.admissionQueue) : s.examine.slot j = s.slot j :=
  s.examineFrom_slot _ h

theorem State.examineFrom_partCount (q : List Slot) {c : PartCounter} (h : c ≠ .notesLost) :
    (s.examineFrom q).partCount c = s.partCount c := by
  induction q generalizing s with
  | nil => rfl
  | cons i rest ih =>
    simp only [State.examineFrom]
    split
    · rw [ih, State.grant, State.changeState_partCount _ _ _ _ h]; rfl
    · rfl

/-! ### The transmitter's decision (R160) -/

/-- All that the transmitter's decision can change. -/
theorem State.decideTx_frame :
    s.decideTx
      = { s with tx := s.decideTx.tx, intake := s.decideTx.intake, restartPending := s.decideTx.restartPending
                 notes := s.decideTx.notes, resendTimer := s.decideTx.resendTimer } := by
  unfold State.decideTx
  repeat' split
  all_goals rfl

@[simp] theorem State.decideTx_now : s.decideTx.now = s.now := by rw [State.decideTx_frame]
@[simp] theorem State.decideTx_resetN : s.decideTx.resetN = s.resetN := by rw [State.decideTx_frame]
@[simp] theorem State.decideTx_hostRate : s.decideTx.hostRate = s.hostRate := by rw [State.decideTx_frame]
@[simp] theorem State.decideTx_spres : s.decideTx.spres = s.spres := by rw [State.decideTx_frame]
@[simp] theorem State.decideTx_edges : s.decideTx.edges = s.edges := by rw [State.decideTx_frame]
@[simp] theorem State.decideTx_classifiers : s.decideTx.classifiers = s.classifiers := by rw [State.decideTx_frame]
@[simp] theorem State.decideTx_slots : s.decideTx.slots = s.slots := by rw [State.decideTx_frame]
@[simp] theorem State.decideTx_admission : s.decideTx.admission = s.admission := by rw [State.decideTx_frame]
@[simp] theorem State.decideTx_committed : s.decideTx.committed = s.committed := by rw [State.decideTx_frame]
@[simp] theorem State.decideTx_enablingCount : s.decideTx.enablingCount = s.enablingCount := by rw [State.decideTx_frame]
@[simp] theorem State.decideTx_admissionQueue : s.decideTx.admissionQueue = s.admissionQueue := by rw [State.decideTx_frame]
@[simp] theorem State.decideTx_transactions : s.decideTx.transactions = s.transactions := by rw [State.decideTx_frame]
@[simp] theorem State.decideTx_inFlight : s.decideTx.inFlight = s.inFlight := by rw [State.decideTx_frame]
@[simp] theorem State.decideTx_nextTicket : s.decideTx.nextTicket = s.nextTicket := by rw [State.decideTx_frame]
@[simp] theorem State.decideTx_engine : s.decideTx.engine = s.engine := by rw [State.decideTx_frame]
@[simp] theorem State.decideTx_cycle : s.decideTx.cycle = s.cycle := by rw [State.decideTx_frame]
@[simp] theorem State.decideTx_beacons : s.decideTx.beacons = s.beacons := by rw [State.decideTx_frame]
@[simp] theorem State.decideTx_nextSeq : s.decideTx.nextSeq = s.nextSeq := by rw [State.decideTx_frame]
@[simp] theorem State.decideTx_rx : s.decideTx.rx = s.rx := by rw [State.decideTx_frame]
@[simp] theorem State.decideTx_hrxd : s.decideTx.hrxd = s.hrxd := by rw [State.decideTx_frame]
@[simp] theorem State.decideTx_rxGap : s.decideTx.rxGap = s.rxGap := by rw [State.decideTx_frame]
@[simp] theorem State.decideTx_cache : s.decideTx.cache = s.cache := by rw [State.decideTx_frame]
@[simp] theorem State.decideTx_params : s.decideTx.params = s.params := by rw [State.decideTx_frame]
@[simp] theorem State.decideTx_partCounters : s.decideTx.partCounters = s.partCounters := by rw [State.decideTx_frame]
@[simp] theorem State.decideTx_slotCounters : s.decideTx.slotCounters = s.slotCounters := by rw [State.decideTx_frame]
@[simp] theorem State.decideTx_pending : s.decideTx.pending = s.pending := by rw [State.decideTx_frame]

theorem markSent_note (l : List NoteEntry) : (markSent l).map NoteEntry.note = l.map NoteEntry.note := by
  induction l with
  | nil => rfl
  | cons e rest ih => simp only [markSent]; split <;> simp [ih]

theorem markSent_seq (l : List NoteEntry) : (markSent l).map NoteEntry.seq = l.map NoteEntry.seq := by
  induction l with
  | nil => rfl
  | cons e rest ih => simp only [markSent]; split <;> simp [ih]

/-- The decision changes no notification's contents or number. -/
@[simp] theorem State.decideTx_notes_note : s.decideTx.notes.map NoteEntry.note = s.notes.map NoteEntry.note := by
  unfold State.decideTx
  repeat' split
  all_goals first | rfl | exact markSent_note _

@[simp] theorem State.decideTx_notes_seq : s.decideTx.notes.map NoteEntry.seq = s.notes.map NoteEntry.seq := by
  unfold State.decideTx
  repeat' split
  all_goals first | rfl | exact markSent_seq _

/-- All that starting a ready reply can change: not the notifications nor the resend timer. -/
theorem State.startReady_frame :
    s.startReady
      = { s with tx := s.startReady.tx, intake := s.startReady.intake, restartPending := s.startReady.restartPending } := by
  unfold State.startReady
  repeat' split
  all_goals rfl

@[simp] theorem State.startReady_now : s.startReady.now = s.now := by rw [State.startReady_frame]
@[simp] theorem State.startReady_resetN : s.startReady.resetN = s.resetN := by rw [State.startReady_frame]
@[simp] theorem State.startReady_hostRate : s.startReady.hostRate = s.hostRate := by rw [State.startReady_frame]
@[simp] theorem State.startReady_spres : s.startReady.spres = s.spres := by rw [State.startReady_frame]
@[simp] theorem State.startReady_edges : s.startReady.edges = s.edges := by rw [State.startReady_frame]
@[simp] theorem State.startReady_classifiers : s.startReady.classifiers = s.classifiers := by rw [State.startReady_frame]
@[simp] theorem State.startReady_slots : s.startReady.slots = s.slots := by rw [State.startReady_frame]
@[simp] theorem State.startReady_admission : s.startReady.admission = s.admission := by rw [State.startReady_frame]
@[simp] theorem State.startReady_committed : s.startReady.committed = s.committed := by rw [State.startReady_frame]
@[simp] theorem State.startReady_enablingCount : s.startReady.enablingCount = s.enablingCount := by rw [State.startReady_frame]
@[simp] theorem State.startReady_admissionQueue : s.startReady.admissionQueue = s.admissionQueue := by rw [State.startReady_frame]
@[simp] theorem State.startReady_transactions : s.startReady.transactions = s.transactions := by rw [State.startReady_frame]
@[simp] theorem State.startReady_inFlight : s.startReady.inFlight = s.inFlight := by rw [State.startReady_frame]
@[simp] theorem State.startReady_nextTicket : s.startReady.nextTicket = s.nextTicket := by rw [State.startReady_frame]
@[simp] theorem State.startReady_engine : s.startReady.engine = s.engine := by rw [State.startReady_frame]
@[simp] theorem State.startReady_cycle : s.startReady.cycle = s.cycle := by rw [State.startReady_frame]
@[simp] theorem State.startReady_beacons : s.startReady.beacons = s.beacons := by rw [State.startReady_frame]
@[simp] theorem State.startReady_nextSeq : s.startReady.nextSeq = s.nextSeq := by rw [State.startReady_frame]
@[simp] theorem State.startReady_hrxd : s.startReady.hrxd = s.hrxd := by rw [State.startReady_frame]
@[simp] theorem State.startReady_rx : s.startReady.rx = s.rx := by rw [State.startReady_frame]
@[simp] theorem State.startReady_rxGap : s.startReady.rxGap = s.rxGap := by rw [State.startReady_frame]
@[simp] theorem State.startReady_cache : s.startReady.cache = s.cache := by rw [State.startReady_frame]
@[simp] theorem State.startReady_params : s.startReady.params = s.params := by rw [State.startReady_frame]
@[simp] theorem State.startReady_partCounters : s.startReady.partCounters = s.partCounters := by rw [State.startReady_frame]
@[simp] theorem State.startReady_slotCounters : s.startReady.slotCounters = s.slotCounters := by rw [State.startReady_frame]
@[simp] theorem State.startReady_pending : s.startReady.pending = s.pending := by rw [State.startReady_frame]
@[simp] theorem State.startReady_notes : s.startReady.notes = s.notes := by rw [State.startReady_frame]
@[simp] theorem State.startReady_resendTimer : s.startReady.resendTimer = s.resendTimer := by rw [State.startReady_frame]

/-! ### The clock (R160) -/

/-- All that moving the clock on can change. -/
theorem State.elapse_frame (t : Nat) :
    s.elapse t
      = { s with now := t, tx := (s.elapse t).tx, intake := (s.elapse t).intake
                 restartPending := (s.elapse t).restartPending, notes := (s.elapse t).notes
                 resendTimer := (s.elapse t).resendTimer } := by
  unfold State.elapse
  split
  · exact congrArg (fun x : State => { x with now := t }) s.decideTx_frame
  · rfl

@[simp] theorem State.elapse_resetN (t : Nat) : (s.elapse t).resetN = s.resetN := by rw [State.elapse_frame]
@[simp] theorem State.elapse_hostRate (t : Nat) : (s.elapse t).hostRate = s.hostRate := by rw [State.elapse_frame]
@[simp] theorem State.elapse_spres (t : Nat) : (s.elapse t).spres = s.spres := by rw [State.elapse_frame]
@[simp] theorem State.elapse_edges (t : Nat) : (s.elapse t).edges = s.edges := by rw [State.elapse_frame]
@[simp] theorem State.elapse_classifiers (t : Nat) : (s.elapse t).classifiers = s.classifiers := by rw [State.elapse_frame]
@[simp] theorem State.elapse_slots (t : Nat) : (s.elapse t).slots = s.slots := by rw [State.elapse_frame]
@[simp] theorem State.elapse_admission (t : Nat) : (s.elapse t).admission = s.admission := by rw [State.elapse_frame]
@[simp] theorem State.elapse_committed (t : Nat) : (s.elapse t).committed = s.committed := by rw [State.elapse_frame]
@[simp] theorem State.elapse_enablingCount (t : Nat) : (s.elapse t).enablingCount = s.enablingCount := by rw [State.elapse_frame]
@[simp] theorem State.elapse_admissionQueue (t : Nat) : (s.elapse t).admissionQueue = s.admissionQueue := by rw [State.elapse_frame]
@[simp] theorem State.elapse_transactions (t : Nat) : (s.elapse t).transactions = s.transactions := by rw [State.elapse_frame]
@[simp] theorem State.elapse_inFlight (t : Nat) : (s.elapse t).inFlight = s.inFlight := by rw [State.elapse_frame]
@[simp] theorem State.elapse_nextTicket (t : Nat) : (s.elapse t).nextTicket = s.nextTicket := by rw [State.elapse_frame]
@[simp] theorem State.elapse_engine (t : Nat) : (s.elapse t).engine = s.engine := by rw [State.elapse_frame]
@[simp] theorem State.elapse_cycle (t : Nat) : (s.elapse t).cycle = s.cycle := by rw [State.elapse_frame]
@[simp] theorem State.elapse_beacons (t : Nat) : (s.elapse t).beacons = s.beacons := by rw [State.elapse_frame]
@[simp] theorem State.elapse_nextSeq (t : Nat) : (s.elapse t).nextSeq = s.nextSeq := by rw [State.elapse_frame]
@[simp] theorem State.elapse_hrxd (t : Nat) : (s.elapse t).hrxd = s.hrxd := by rw [State.elapse_frame]
@[simp] theorem State.elapse_rx (t : Nat) : (s.elapse t).rx = s.rx := by rw [State.elapse_frame]
@[simp] theorem State.elapse_rxGap (t : Nat) : (s.elapse t).rxGap = s.rxGap := by rw [State.elapse_frame]
@[simp] theorem State.elapse_cache (t : Nat) : (s.elapse t).cache = s.cache := by rw [State.elapse_frame]
@[simp] theorem State.elapse_params (t : Nat) : (s.elapse t).params = s.params := by rw [State.elapse_frame]
@[simp] theorem State.elapse_partCounters (t : Nat) : (s.elapse t).partCounters = s.partCounters := by rw [State.elapse_frame]
@[simp] theorem State.elapse_slotCounters (t : Nat) : (s.elapse t).slotCounters = s.slotCounters := by rw [State.elapse_frame]
@[simp] theorem State.elapse_pending (t : Nat) : (s.elapse t).pending = s.pending := by rw [State.elapse_frame]
@[simp] theorem State.elapse_now (t : Nat) : (s.elapse t).now = t := rfl

/-- At its own instant the clock moves nothing. -/
theorem State.elapse_self {t : Nat} (h : t ≤ s.now) : s.elapse t = { s with now := t } := by
  unfold State.elapse; rw [if_neg (Nat.not_lt.mpr h)]

/-- A later instant finds the transmitter's decision made. -/
theorem State.elapse_later {t : Nat} (h : s.now < t) : s.elapse t = { s.decideTx with now := t } := by
  unfold State.elapse; rw [if_pos h]

/-- While a frame is on HTXD the clock moves nothing else. -/
theorem State.elapse_busy {x : TxFrame} (t : Nat) (h : s.tx = some x) : s.elapse t = { s with now := t } := by
  have hd : s.decideTx = s := by unfold State.decideTx State.txFree; simp [h]
  unfold State.elapse; rw [hd, ite_self]

@[simp] theorem State.elapse_notes_note (t : Nat) :
    (s.elapse t).notes.map NoteEntry.note = s.notes.map NoteEntry.note := by
  unfold State.elapse; split <;> simp

@[simp] theorem State.elapse_notes_seq (t : Nat) : (s.elapse t).notes.map NoteEntry.seq = s.notes.map NoteEntry.seq := by
  unfold State.elapse; split <;> simp

@[simp] theorem State.elapse_notes_length (t : Nat) : (s.elapse t).notes.length = s.notes.length := by
  have h := congrArg List.length (s.elapse_notes_note t)
  rwa [List.length_map, List.length_map] at h

@[simp] theorem State.elapse_slot (t : Nat) (i : Slot) : (s.elapse t).slot i = s.slot i := by simp [State.slot]
@[simp] theorem State.elapse_classifier (t : Nat) (i : Slot) : (s.elapse t).classifier i = s.classifier i := by
  simp [State.classifier]
@[simp] theorem State.elapse_partCount (t : Nat) (c : PartCounter) : (s.elapse t).partCount c = s.partCount c := by
  simp [State.partCount]
@[simp] theorem State.elapse_slotCount (t : Nat) (i : Slot) (c : SlotCounter) :
    (s.elapse t).slotCount i c = s.slotCount i c := by simp [State.slotCount]

/-! ### The end of an event (R66) -/

variable (before : State)

@[simp] theorem finish_now : (finish before s).now = s.now := by unfold finish; split <;> simp
@[simp] theorem finish_resetN : (finish before s).resetN = s.resetN := by unfold finish; split <;> simp
@[simp] theorem finish_hostRate : (finish before s).hostRate = s.hostRate := by unfold finish; split <;> simp
@[simp] theorem finish_spres : (finish before s).spres = s.spres := by unfold finish; split <;> simp
@[simp] theorem finish_edges : (finish before s).edges = s.edges := by unfold finish; split <;> simp
@[simp] theorem finish_classifiers : (finish before s).classifiers = s.classifiers := by unfold finish; split <;> simp
@[simp] theorem finish_admission : (finish before s).admission = s.admission := by unfold finish; split <;> simp
@[simp] theorem finish_transactions : (finish before s).transactions = s.transactions := by unfold finish; split <;> simp
@[simp] theorem finish_inFlight : (finish before s).inFlight = s.inFlight := by unfold finish; split <;> simp
@[simp] theorem finish_nextTicket : (finish before s).nextTicket = s.nextTicket := by unfold finish; split <;> simp
@[simp] theorem finish_engine : (finish before s).engine = s.engine := by unfold finish; split <;> simp
@[simp] theorem finish_cycle : (finish before s).cycle = s.cycle := by unfold finish; split <;> simp
@[simp] theorem finish_beacons : (finish before s).beacons = s.beacons := by unfold finish; split <;> simp
@[simp] theorem finish_rx : (finish before s).rx = s.rx := by unfold finish; split <;> simp
@[simp] theorem finish_hrxd : (finish before s).hrxd = s.hrxd := by unfold finish; split <;> simp
@[simp] theorem finish_rxGap : (finish before s).rxGap = s.rxGap := by unfold finish; split <;> simp
@[simp] theorem finish_cache : (finish before s).cache = s.cache := by unfold finish; split <;> simp
@[simp] theorem finish_params : (finish before s).params = s.params := by unfold finish; split <;> simp
@[simp] theorem finish_slotCounters : (finish before s).slotCounters = s.slotCounters := by unfold finish; split <;> simp
@[simp] theorem finish_resendTimer : (finish before s).resendTimer = s.resendTimer := by unfold finish; split <;> simp
@[simp] theorem finish_intake : (finish before s).intake = s.intake := by unfold finish; split <;> simp
@[simp] theorem finish_tx : (finish before s).tx = s.tx := by unfold finish; split <;> simp
@[simp] theorem finish_restartPending : (finish before s).restartPending = s.restartPending := by unfold finish; split <;> simp
@[simp] theorem finish_pending : (finish before s).pending = s.pending := by unfold finish; split <;> simp

/-- An event that leaves the Enable Sequencer's state and limits alone causes no examination (Table 4-2). -/
theorem finish_quiet (hq : s.admissionQueue = before.admissionQueue) (hc : s.committed = before.committed)
    (he : s.enablingCount = before.enablingCount) (hb : s.params.budgetLimit = before.params.budgetLimit)
    (hs : s.params.staggerLimit = before.params.staggerLimit) : finish before s = s := by
  unfold finish examinationDue; rw [hq, hc, he, hb, hs]; simp

/-- A slot outside the admission queue keeps its record to the end of the event. -/
theorem finish_slot {j : Slot} (h : j ∉ s.admissionQueue) : (finish before s).slot j = s.slot j := by
  unfold finish; split
  · exact s.examine_slot h
  · rfl

theorem finish_partCount {c : PartCounter} (h : c ≠ .notesLost) : (finish before s).partCount c = s.partCount c := by
  unfold finish; split
  · exact s.examineFrom_partCount _ h
  · rfl

/-- An event that is taken answers the end of its actions. -/
theorem takeEvent_taken {s : State} {t : Nat} {possible : Bool} (act : State → State) (h : s.takes t)
    (hp : possible = true) :
    takeEvent t possible act s = .next (finish (s.elapse t) (act (s.elapse t))) := by
  unfold takeEvent; rw [h.1, hp]; simp [h.2]

/-- An event that cannot occur changes nothing. -/
theorem takeEvent_none {s : State} {t : Nat} {possible : Bool} (act : State → State) (hp : possible = false) :
    takeEvent t possible act s = .next s := by
  unfold takeEvent; rw [hp]; simp

/-- An event answers a next state: `s` itself, or the end of its actions. -/
theorem takeEvent_next (t : Nat) (possible : Bool) (act : State → State) :
    takeEvent t possible act s = .next s ∨
      s.takes t ∧ takeEvent t possible act s = .next (finish (s.elapse t) (act (s.elapse t))) := by
  by_cases h : s.resetN = true ∧ s.now ≤ t
  · cases possible with
    | false => exact Or.inl (takeEvent_none act rfl)
    | true => exact Or.inr ⟨h, takeEvent_taken act h rfl⟩
  · refine Or.inl ?_
    unfold takeEvent
    rw [if_neg]
    simp only [Bool.and_eq_true, decide_eq_true_eq]
    exact fun h' => h h'.1

/-- With room for all of them, notifications raised in order stand behind what the list held (R137, R138). -/
theorem State.raiseAll_room (ns : List Note) (h : s.notes.length + ns.length ≤ Config.noteRoom + 1) :
    (s.raiseAll ns).notes = s.notes ++ numbered s.nextSeq ns := by
  induction ns generalizing s with
  | nil => simp [State.raiseAll, numbered]
  | cons n rest ih =>
    simp only [List.length_cons] at h
    rw [State.raiseAll, s.raise_room n (by omega), ih _ (by simp [State.store]; omega)]
    simp [State.store, numbered]

end Sys2Proof.Machine
end

