-- ==== Sys2Proof/Laws/Slots.lean ====
section
/-! SUPPORT. What the operations of the Slot Controller, the Enable Sequencer and the Transaction Queue can change: the slot
records and counters, the admission queue and the power values, the transactions, and the notification list; and what the
operations of the bus cycle can change. -/

namespace Sys2Proof.Machine

/-- `x` differs from `s` at most in what the slots' owners hold and in the notifications they raise. -/
def OwnersOnly (s x : State) : Prop :=
  x = { s with slots := x.slots, admissionQueue := x.admissionQueue, committed := x.committed
               enablingCount := x.enablingCount, transactions := x.transactions, inFlight := x.inFlight, notes := x.notes
               nextSeq := x.nextSeq, partCounters := x.partCounters, slotCounters := x.slotCounters }

namespace OwnersOnly

variable {s x y : State}

theorem refl (s : State) : OwnersOnly s s := rfl

theorem trans (h : OwnersOnly s x) (h' : OwnersOnly x y) : OwnersOnly s y := by
  unfold OwnersOnly at *; rw [h', h]

theorem now (h : OwnersOnly s x) : x.now = s.now := by rw [h]
theorem resetN (h : OwnersOnly s x) : x.resetN = s.resetN := by rw [h]
theorem hostRate (h : OwnersOnly s x) : x.hostRate = s.hostRate := by rw [h]
theorem spres (h : OwnersOnly s x) : x.spres = s.spres := by rw [h]
theorem edges (h : OwnersOnly s x) : x.edges = s.edges := by rw [h]
theorem classifiers (h : OwnersOnly s x) : x.classifiers = s.classifiers := by rw [h]
theorem admission (h : OwnersOnly s x) : x.admission = s.admission := by rw [h]
theorem nextTicket (h : OwnersOnly s x) : x.nextTicket = s.nextTicket := by rw [h]
theorem engine (h : OwnersOnly s x) : x.engine = s.engine := by rw [h]
theorem cycle (h : OwnersOnly s x) : x.cycle = s.cycle := by rw [h]
theorem beacons (h : OwnersOnly s x) : x.beacons = s.beacons := by rw [h]
theorem resendTimer (h : OwnersOnly s x) : x.resendTimer = s.resendTimer := by rw [h]
theorem hrxd (h : OwnersOnly s x) : x.hrxd = s.hrxd := by rw [h]
theorem rx (h : OwnersOnly s x) : x.rx = s.rx := by rw [h]
theorem rxGap (h : OwnersOnly s x) : x.rxGap = s.rxGap := by rw [h]
theorem intake (h : OwnersOnly s x) : x.intake = s.intake := by rw [h]
theorem cache (h : OwnersOnly s x) : x.cache = s.cache := by rw [h]
theorem tx (h : OwnersOnly s x) : x.tx = s.tx := by rw [h]
theorem restartPending (h : OwnersOnly s x) : x.restartPending = s.restartPending := by rw [h]
theorem params (h : OwnersOnly s x) : x.params = s.params := by rw [h]
theorem pending (h : OwnersOnly s x) : x.pending = s.pending := by rw [h]

end OwnersOnly

variable (s : State)

/-! ### The plain updates -/

theorem State.updSlot_owners (i : Slot) (f : SlotRecord → SlotRecord) : OwnersOnly s (s.updSlot i f) := rfl
theorem State.countSlot_owners (i : Slot) (c : SlotCounter) : OwnersOnly s (s.countSlot i c) := rfl
theorem State.countPart_owners (c : PartCounter) : OwnersOnly s (s.countPart c) := rfl
theorem State.raise_owners (n : Note) : OwnersOnly s (s.raise n) := by unfold OwnersOnly; rw [State.raise_frame]
theorem State.raiseAll_owners (ns : List Note) : OwnersOnly s (s.raiseAll ns) := by
  unfold OwnersOnly; rw [State.raiseAll_frame]
theorem State.changeState_owners (i : Slot) (new : SlotState) (why : Reason) : OwnersOnly s (s.changeState i new why) := by
  unfold OwnersOnly; rw [State.changeState_frame]
theorem State.examineFrom_owners (q : List Slot) : OwnersOnly s (s.examineFrom q) := by
  unfold OwnersOnly; rw [State.examineFrom_frame]
theorem State.examine_owners : OwnersOnly s s.examine := s.examineFrom_owners _
theorem State.enqueue_owners (x : Transaction) : OwnersOnly s (s.enqueue x) := rfl

/-! ### Transactions (R81, R83, R90) -/

theorem State.enterInternal_owners (i : Slot) (w : Work) : OwnersOnly s (s.enterInternal i w) := by
  unfold State.enterInternal
  repeat' split
  all_goals rfl

theorem State.markDiscard_owners (p : Transaction → Bool) : OwnersOnly s (s.markDiscard p) := by
  unfold State.markDiscard
  repeat' split
  all_goals rfl

theorem State.removeEntries_owners (i : Slot) : OwnersOnly s (s.removeEntries i) :=
  (s.markDiscard_owners _).trans rfl

theorem State.removeStatus_owners (i : Slot) : OwnersOnly s (s.removeStatus i) :=
  (s.markDiscard_owners _).trans rfl

theorem State.retry_owners (x : Transaction) : OwnersOnly s (s.retry x) := by
  unfold State.retry; split <;> rfl

/-- An internal entry of the slot of the kind entered stands in the list (R81). -/
theorem State.enterInternal_mem (i : Slot) (w : Work) :
    ∃ x ∈ (s.enterInternal i w).transactions, x.slot = i ∧ x.work = w := by
  unfold State.enterInternal
  split
  · exact ⟨.fresh i w, by simp [State.enqueue], rfl, rfl⟩
  · next x hx =>
    have hm := List.mem_of_find?_eq_some hx
    have hi : x.slot = i := by
      have := List.find?_some hx
      simp only [Transaction.internalOf, Bool.and_eq_true, decide_eq_true_eq] at this
      exact this.1
    split
    · next hw => exact ⟨x, hm, hi, hw⟩
    · exact ⟨.fresh i w, by simp, rfl, rfl⟩

/-- What the list is after an internal transaction has been entered, in every case of R81. -/
theorem State.enterInternal_enters (i : Slot) (w : Work) :
    Enters s.transactions (s.enterInternal i w).transactions i w := by
  unfold State.enterInternal
  refine ⟨fun h => ?_, fun first x later hl hf hx => ?_⟩
  · rw [List.find?_eq_none.mpr fun x hx => by rw [h x hx]; exact Bool.false_ne_true]; rfl
  · have hfind : s.transactions.find? (fun x => x.internalOf i) = some x := by
      rw [hl, List.find?_append, List.find?_eq_none.mpr fun y hy => by rw [hf y hy]; exact Bool.false_ne_true]
      simp [hx]
    rw [hfind]
    refine ⟨fun hw => by simp [hw], fun hw => ?_⟩
    simp only [if_neg hw, Transaction.fresh]
    congr 2; funext y; cases y.internalOf i <;> rfl

/-- The list after an entry into RELEASING (R22, R83). -/
theorem State.enterReleasing_transactions (i : Slot) (why : Reason) :
    StandDownEntered s.transactions (s.enterReleasing i why).transactions i := by
  unfold State.enterReleasing StandDownEntered
  simp only [State.changeState_transactions]
  have h := (((s.updSlot i fun r => { r with health := none, reportOwed := false, standDownConfirmed := false }).removeStatus
    i).enterInternal_enters i .standDown)
  have hl : ((s.updSlot i fun r => { r with health := none, reportOwed := false, standDownConfirmed := false }).removeStatus
      i).transactions = s.transactions.filter fun x => ¬(x.slot = i ∧ x.work = .status) := by
    show List.filter _ _ = _
    congr 1; funext x; simp
  rwa [hl] at h

/-- No other slot's entry comes or goes. -/
theorem Enters.other {l l' : List Transaction} {i : Slot} {w : Work} (h : Enters l l' i w) {y : Transaction}
    (hy : y.slot ≠ i) : y ∈ l' ↔ y ∈ l := by
  have hn : y.internalOf i = false := by simp [Transaction.internalOf, hy]
  have hf : y ≠ { slot := i, work := w, attempts := 0, busy := 0 } := fun e => hy (by rw [e])
  cases hfind : l.find? (fun x => x.internalOf i) with
  | none =>
    rw [h.1 fun x hx => Bool.eq_false_iff.mpr (List.find?_eq_none.mp hfind x hx)]
    simp [hf]
  | some x =>
    obtain ⟨hx, first, later, hl, hfirst⟩ := List.find?_eq_some_iff_append.mp hfind
    obtain ⟨h1, h2⟩ := h.2 first x later hl (fun z hz => by simpa using hfirst z hz) hx
    by_cases hw : x.work = w
    · rw [h1 hw]
    · rw [h2 hw]; simp [hf, hn]

@[simp] theorem State.enterInternal_slot (i j : Slot) (w : Work) : (s.enterInternal i w).slot j = s.slot j := by
  unfold State.enterInternal
  repeat' split
  all_goals rfl

@[simp] theorem State.removeStatus_slot (i j : Slot) : (s.removeStatus i).slot j = s.slot j := by
  unfold State.removeStatus State.markDiscard
  repeat' split
  all_goals rfl

@[simp] theorem State.removeEntries_slot (i j : Slot) : (s.removeEntries i).slot j = s.slot j := by
  unfold State.removeEntries State.markDiscard
  repeat' split
  all_goals rfl

@[simp] theorem State.removeEntries_transactions (i : Slot) :
    (s.removeEntries i).transactions = s.transactions.filter (fun x => x.slot ≠ i) := rfl

theorem State.removeEntries_inFlight (i : Slot) :
    (s.removeEntries i).inFlight
      = s.inFlight.map (fun f => if f.tx.slot = i then { f with discard := true } else f) := by
  unfold State.removeEntries State.markDiscard
  cases h : s.inFlight with
  | none => simp [h]
  | some f => by_cases hi : f.tx.slot = i <;> simp [h, hi]

/-! ### Power (R69 to R71) -/

theorem State.leaveEnabling_owners (i : Slot) : OwnersOnly s (s.leaveEnabling i) := by
  unfold State.leaveEnabling; split <;> rfl

theorem State.credit_owners (i : Slot) : OwnersOnly s (s.credit i) := by unfold State.credit; split <;> rfl

theorem State.powerOff_owners (i : Slot) : OwnersOnly s (s.powerOff i) :=
  ((s.leaveEnabling_owners i).trans (State.credit_owners _ i)).trans rfl

theorem State.leaveQueue_owners (i : Slot) : OwnersOnly s (s.leaveQueue i) := rfl

@[simp] theorem State.leaveEnabling_slot (i j : Slot) : (s.leaveEnabling i).slot j = s.slot j := by
  unfold State.leaveEnabling; split <;> rfl

@[simp] theorem State.credit_slot (i j : Slot) : (s.credit i).slot j = s.slot j := by
  unfold State.credit; split <;> rfl

@[simp] theorem State.powerOff_slot (i j : Slot) :
    (s.powerOff i).slot j = if j = i then { s.slot i with enable := false } else s.slot j := by
  unfold State.powerOff; rw [State.updSlot_slot]; simp

/-- The credit of a deassertion: the slot's units, if its output was asserted (R69). -/
theorem State.powerOff_committed (i : Slot) :
    (s.powerOff i).committed = if (s.slot i).enable then s.committed - (s.slot i).units else s.committed := by
  have h : (s.leaveEnabling i).committed = s.committed := by unfold State.leaveEnabling; split <;> rfl
  simp only [State.powerOff, State.updSlot_committed, State.credit, State.leaveEnabling_slot]
  split <;> simp [h]

/-- The enabling count falls when the slot was in ENABLING (R70). -/
theorem State.powerOff_enablingCount (i : Slot) :
    (s.powerOff i).enablingCount
      = if (s.slot i).state = .enabling then s.enablingCount - 1 else s.enablingCount := by
  have h : ∀ x : State, (x.credit i).enablingCount = x.enablingCount := fun x => by unfold State.credit; split <;> rfl
  simp only [State.powerOff, State.updSlot_enablingCount, h, State.leaveEnabling]
  split <;> rfl

/-! ### Transitions of the Slot Controller -/

theorem State.enterIdentifying_owners (i : Slot) (why : Reason) : OwnersOnly s (s.enterIdentifying i why) :=
  ((s.updSlot_owners i _).trans (State.enterInternal_owners _ _ _)).trans (State.changeState_owners _ _ _ _)

theorem State.enterFaulted_owners (i : Slot) (why : Reason) : OwnersOnly s (s.enterFaulted i why) :=
  (((s.powerOff_owners i).trans (State.updSlot_owners _ i _)).trans (State.countSlot_owners _ i _)).trans
    (State.changeState_owners _ _ _ _)

theorem State.enterParked_owners (i : Slot) (why : Reason) : OwnersOnly s (s.enterParked i why) :=
  ((s.powerOff_owners i).trans (State.updSlot_owners _ i _)).trans (State.changeState_owners _ _ _ _)

theorem State.enterPending_owners (i : Slot) (why : Reason) : OwnersOnly s (s.enterPending i why) :=
  (s.updSlot_owners i _).trans (State.changeState_owners _ _ _ _)

theorem State.join_owners (i : Slot) (by' : AdmittedBy) (why : Reason) : OwnersOnly s (s.join i by' why) :=
  have h : OwnersOnly s { s with admissionQueue := s.admissionQueue ++ [i] } := rfl
  (h.trans (State.updSlot_owners _ _ _)).trans (State.changeState_owners _ _ _ _)

theorem State.answerLatch_owners (i : Slot) : OwnersOnly s (s.answerLatch i) := by
  unfold State.answerLatch
  split
  · exact (s.updSlot_owners i _).trans (State.enterInternal_owners _ _ _)
  · rfl

theorem State.enterActive_owners (i : Slot) : OwnersOnly s (s.enterActive i) :=
  ((((s.leaveEnabling_owners i).trans (State.updSlot_owners _ i _)).trans (State.answerLatch_owners _ i)).trans
    (State.updSlot_owners _ i _)).trans (State.changeState_owners _ _ _ _)

/-- The list after an entry into ACTIVE from ENABLING (R20). -/
theorem State.enterActive_transactions (i : Slot) : LatchAnswered s (s.enterActive i).transactions i := by
  have hs : ((s.leaveEnabling i).updSlot i fun r => { r with powerup := none, poll := none }).transactions
      = s.transactions := by
    unfold State.leaveEnabling; split <;> rfl
  have hr : (((s.leaveEnabling i).updSlot i fun r => { r with powerup := none, poll := none }).slot i).attentionLatched
      = (s.slot i).attentionLatched := by
    rw [State.updSlot_slot_self]; unfold State.leaveEnabling; split <;> rfl
  unfold State.enterActive State.answerLatch LatchAnswered
  simp only [State.changeState_transactions, State.updSlot_transactions]
  rw [hr]
  refine ⟨fun h => ?_, fun h => ?_⟩
  · rw [if_pos h]
    have := State.enterInternal_enters
      (((s.leaveEnabling i).updSlot i fun r => { r with powerup := none, poll := none }).updSlot i
        fun r => { r with attentionLatched := false, reportOwed := true }) i .status
    rwa [State.updSlot_transactions, hs] at this
  · rw [if_neg (by rw [h]; exact Bool.false_ne_true), hs]

theorem State.enterReleasing_owners (i : Slot) (why : Reason) : OwnersOnly s (s.enterReleasing i why) :=
  (((s.updSlot_owners i _).trans (State.removeStatus_owners _ i)).trans (State.enterInternal_owners _ _ _)).trans
    (State.changeState_owners _ _ _ _)

theorem State.firstEvaluation_owners (i : Slot) (level : Bool) : OwnersOnly s (s.firstEvaluation i level) := by
  unfold State.firstEvaluation
  split
  · exact (s.countSlot_owners i _).trans (State.enterIdentifying_owners _ _ _)
  · exact s.changeState_owners _ _ _

theorem State.arrival_owners (i : Slot) : OwnersOnly s (s.arrival i) :=
  (s.countSlot_owners i _).trans (State.enterIdentifying_owners _ _ _)

theorem State.departure_owners (i : Slot) : OwnersOnly s (s.departure i) := by
  unfold State.departure
  have h := (s.powerOff_owners i).trans (State.removeEntries_owners _ i)
  refine OwnersOnly.trans ?_ (State.raiseAll_owners _ _)
  refine OwnersOnly.trans ?_ (State.changeState_owners _ _ _ _)
  refine OwnersOnly.trans ?_ (State.countSlot_owners _ _ _)
  refine OwnersOnly.trans ?_ (State.updSlot_owners _ _ _)
  split
  · exact h.trans (State.leaveQueue_owners _ _)
  · exact h

theorem State.oweReport_owners (i : Slot) : OwnersOnly s (s.oweReport i) :=
  (s.enterInternal_owners i _).trans (State.updSlot_owners _ _ _)

theorem State.attention_owners (i : Slot) : OwnersOnly s (s.attention i) := by
  have h := s.countSlot_owners i .attentions
  have latched := h.trans (State.updSlot_owners _ i fun r => { r with attentionLatched := true })
  unfold State.attention
  simp only
  split
  · exact latched.trans (State.raise_owners _ _)
  · exact latched.trans (State.raise_owners _ _)
  · exact latched.trans (State.raise_owners _ _)
  · exact latched.trans (State.raise_owners _ _)
  · split
    · exact h.trans (State.enterActive_owners _ _)
    · exact latched
    · exact h
  · exact h.trans (State.oweReport_owners _ _)
  all_goals exact h

theorem State.admitByTable_owners (i : Slot) (d : Identity) : OwnersOnly s (s.admitByTable i d) := by
  unfold State.admitByTable
  split
  · split
    · exact s.join_owners _ _ _
    · exact s.enterPending_owners _ _
  · exact s.enterPending_owners _ _
  · exact s.enterParked_owners _ _

theorem State.identifyDone_owners (i : Slot) (body : List Byte) : OwnersOnly s (s.identifyDone i body) := by
  unfold State.identifyDone
  split
  · exact (s.updSlot_owners i _).trans (State.admitByTable_owners _ _ _)
  · exact s.enterFaulted_owners _ _

theorem State.noteFailure_owners (i : Slot) : OwnersOnly s (s.noteFailure i) := by
  unfold State.noteFailure
  have h := s.updSlot_owners i fun r => { r with failures := min (r.failures + 1) Config.maxFailures }
  simp only
  split
  · exact h.trans (State.enterFaulted_owners _ _ _)
  · exact h

theorem State.takeAttempt_owners (x : Transaction) (o : AttemptOutcome) : OwnersOnly s (s.takeAttempt x o) := by
  unfold State.takeAttempt
  repeat' split
  all_goals first | exact s.noteFailure_owners _ | exact s.updSlot_owners _ _ | rfl

theorem State.standDownIf_owners (i : Slot) (r : StatusRecord) : OwnersOnly s (s.standDownIf i r) := by
  unfold State.standDownIf
  split
  · exact s.enterReleasing_owners _ _
  · rfl

theorem State.statusEnabling_owners (i : Slot) (r : StatusRecord) : OwnersOnly s (s.statusEnabling i r) := by
  unfold State.statusEnabling
  have h := s.updSlot_owners i fun x => { x with lastStatus := some r }
  split
  · exact (h.trans (State.enterActive_owners _ _)).trans (State.standDownIf_owners _ _ _)
  · exact (h.trans (State.enterActive_owners _ _)).trans (State.standDownIf_owners _ _ _)
  · exact h
  · exact h.trans (State.enterFaulted_owners _ _ _)

theorem State.statusActive_owners (i : Slot) (r : StatusRecord) : OwnersOnly s (s.statusActive i r) := by
  unfold State.statusActive
  have h := s.updSlot_owners i fun x => { x with lastStatus := some r }
  refine OwnersOnly.trans ?_ (State.standDownIf_owners _ _ _)
  split
  · exact (h.trans (State.updSlot_owners _ _ _)).trans (State.raise_owners _ _)
  · exact h

theorem State.statusDone_owners (i : Slot) (r : StatusRecord) : OwnersOnly s (s.statusDone i r) := by
  unfold State.statusDone
  repeat' split
  all_goals
    first
    | exact s.statusEnabling_owners _ _
    | exact s.statusActive_owners _ _
    | exact s.updSlot_owners _ _
    | rfl

theorem State.standDownEnd_owners (i : Slot) (confirmed : Bool) : OwnersOnly s (s.standDownEnd i confirmed) := by
  unfold State.standDownEnd; split <;> rfl

theorem State.internalFailed_owners (x : Transaction) : OwnersOnly s (s.internalFailed x) := by
  unfold State.internalFailed
  repeat' split
  all_goals first | exact s.enterFaulted_owners _ _ | exact s.standDownEnd_owners _ _ | rfl

theorem State.internalDone_owners (x : Transaction) (body : List Byte) : OwnersOnly s (s.internalDone x body) := by
  unfold State.internalDone
  repeat' split
  all_goals
    first
    | exact s.identifyDone_owners _ _
    | exact s.statusDone_owners _ _
    | exact s.standDownEnd_owners _ _
    | rfl

/-! ### The end of an attempt (R85 to R91, R115) -/

theorem State.endFailed_owners (x : Transaction) (o : RelayOutcome) : OwnersOnly s (s.endFailed x o) := by
  unfold State.endFailed
  split
  · exact s.raise_owners _
  · exact s.internalFailed_owners _

theorem State.endDone_owners (x : Transaction) (body : List Byte) : OwnersOnly s (s.endDone x body) := by
  unfold State.endDone
  split
  · exact s.raise_owners _
  · exact s.internalDone_owners _ _

theorem State.retryOrEnd_owners (x : Transaction) (o : RelayOutcome) : OwnersOnly s (s.retryOrEnd x o) := by
  unfold State.retryOrEnd
  split
  · exact s.retry_owners _
  · exact s.endFailed_owners _ _

theorem State.takeOutcome_owners (x : Transaction) (o : AttemptOutcome) : OwnersOnly s (s.takeOutcome x o) := by
  unfold State.takeOutcome
  have h := s.takeAttempt_owners x o
  simp only
  split
  · exact h.trans (State.endDone_owners _ _ _)
  · exact h.trans (State.endFailed_owners _ _ _)
  · exact h.trans (State.retryOrEnd_owners _ _ _)
  · exact (h.trans (State.countSlot_owners _ _ _)).trans (State.retryOrEnd_owners _ _ _)

theorem State.countOutcome_owners (o : AttemptOutcome) : OwnersOnly s (s.countOutcome o) := by
  unfold State.countOutcome; split <;> rfl

/-- The end of an attempt leaves the engine in TURNAROUND with nothing in flight; the rest is the owners' (R115 to
R117). -/
theorem State.endAttempt_owners (o : AttemptOutcome) :
    OwnersOnly { s with engine := { s.engine with outcome := some o }.turn s.now } (s.endAttempt o) := by
  unfold State.endAttempt
  simp only
  split
  · rfl
  · split
    · rfl
    · refine OwnersOnly.trans ?_ (State.takeOutcome_owners _ _ _)
      refine OwnersOnly.trans ?_ (State.countOutcome_owners _ _)
      rfl

/-! ### Limits (R73) -/

theorem State.ejectOver_owners : OwnersOnly s s.ejectOver := by
  have h : ∀ (l : List Slot) (x : State),
      OwnersOnly s x → OwnersOnly s (l.foldl (fun s i => s.enterPending i .limitLowered) x) := by
    intro l
    induction l with
    | nil => exact fun _ h => h
    | cons i rest ih => exact fun x hx => ih _ (hx.trans (State.enterPending_owners _ _ _))
  exact h _ _ rfl

/-! ### The bus cycle (R118, R122, R127 to R129) -/

/-- `x` differs from `s` at most in the engine, the cycle, the beacon records and the part-wide counters. -/
def CycleOnly (s x : State) : Prop :=
  x = { s with engine := x.engine, cycle := x.cycle, beacons := x.beacons, partCounters := x.partCounters }

theorem CycleOnly.trans {s x y : State} (h : CycleOnly s x) (h' : CycleOnly x y) : CycleOnly s y := by
  unfold CycleOnly at *; rw [h', h]

theorem State.countPartBy_cycle (c : PartCounter) (n : Nat) : CycleOnly s (s.countPartBy c n) := by
  induction n generalizing s with
  | zero => rfl
  | succ n ih => exact CycleOnly.trans (x := s.countPart c) rfl (ih _)

theorem State.startBeacon_cycle (k : Fin 8) (rest : List (Fin 8)) : CycleOnly s (s.startBeacon k rest) := by
  unfold State.startBeacon; simp only; split <;> rfl

theorem State.skipRest_cycle : CycleOnly s s.skipRest :=
  (s.countPartBy_cycle _ _).trans rfl

theorem State.serveWindow_cycle (before : Bool) : CycleOnly s (s.serveWindow before) := by
  unfold State.serveWindow
  repeat' split
  all_goals first | rfl | exact s.startBeacon_cycle _ _ | exact s.skipRest_cycle

theorem State.beginWindow_cycle : CycleOnly s s.beginWindow := by
  unfold State.beginWindow
  simp only
  repeat' split
  all_goals
    first
    | rfl
    | exact CycleOnly.trans (x := { s with cycle := { s.cycle with window := .opened } }) rfl
        (State.serveWindow_cycle _ _)

theorem State.startCycle_cycle (number : Half) : CycleOnly s (s.startCycle number) := by
  unfold State.startCycle
  refine (s.skipRest_cycle).trans (CycleOnly.trans ?_ (State.beginWindow_cycle _))
  rfl

theorem State.turnaroundEnds_cycle (quietFirst : Bool) : CycleOnly s (s.turnaroundEnds quietFirst) := by
  unfold State.turnaroundEnds
  simp only
  split
  · rfl
  · exact CycleOnly.trans (by rfl) (State.serveWindow_cycle _ _)
  · exact CycleOnly.trans (by rfl) (State.serveWindow_cycle _ _)

end Sys2Proof.Machine
end

