-- ==== Sys2Proof/Laws/Notes.lean ====
section
/-! SUPPORT. What raising notifications does to the list, its numbers and NOTES_LOST (R137 to R140, Table 8-3): the words
`RaisedExactly` and `Raised` of Sys2Proof/Safety.lean, from the operation `State.raiseAll`. -/

namespace Sys2Proof.Machine

/-! ### Saturating counts -/

theorem satInc_toNat {w : Nat} (c : BitVec w) : (satInc c).toNat = saturated c 1 := by
  unfold satInc saturated
  have hc := c.isLt
  by_cases h : c = BitVec.allOnes w
  · rw [if_pos h, h, BitVec.toNat_allOnes]; omega
  · rw [if_neg h]
    have hn : c.toNat ≠ 2 ^ w - 1 := fun e => h (BitVec.eq_of_toNat_eq (by rw [e, BitVec.toNat_allOnes]))
    show (c + 1#w).toNat = _
    rw [BitVec.toNat_add, BitVec.toNat_ofNat, Nat.add_mod_mod, Nat.mod_eq_of_lt (by omega)]
    omega

theorem saturated_satInc {w : Nat} (c : BitVec w) (n : Nat) : saturated (satInc c) n = saturated c (n + 1) := by
  unfold saturated; rw [satInc_toNat]; unfold saturated; omega

/-! ### One notification -/

variable (s : State)

theorem State.raise_full (n : Note) (h : 63 ≤ s.notes.length) : s.raise n = s.lose := by
  unfold State.raise; rw [if_neg]; show ¬s.notes.length ≤ 62; omega

/-- A loss behind an unsent LOSS marker is counted by it (R139, case 1). -/
theorem State.lose_marked {init : List NoteEntry} {q count : Half} (h : s.notes = init ++ [marker q count]) :
    s.lose = { s.countPart .notesLost with notes := init ++ [marker q (satInc count)] } := by
  unfold State.lose State.markLoss
  have hl : (s.countPart .notesLost).notes.getLast? = some { seq := q, note := .loss count, sent := false } := by
    rw [State.countPart_notes, h, List.getLast?_concat]; rfl
  rw [hl]
  simp only [State.countPart_notes, h, List.dropLast_concat]
  rfl

/-- A loss with 63 entries and no unsent LOSS marker at the tail stores one (R139, case 2). -/
theorem State.lose_unmarked (hl : s.notes.length = 63) (h : (s.notes.getLast?.map NoteEntry.openLoss) = some false) :
    s.lose = (s.countPart .notesLost).store (.loss 1) := by
  unfold State.lose State.markLoss
  split
  · rename_i q c hc
    rw [State.countPart_notes] at hc
    rw [hc] at h
    cases h
  · rw [if_pos]; rw [State.countPart_notes, hl]; rfl

/-! ### Several -/

theorem State.raiseAll_append (a b : List Note) : s.raiseAll (a ++ b) = (s.raiseAll a).raiseAll b := by
  induction a generalizing s with
  | nil => rfl
  | cons n rest ih => exact ih (s.raise n)

theorem numbered_length (q : Half) (ns : List Note) : (numbered q ns).length = ns.length := by
  induction ns generalizing q with
  | nil => rfl
  | cons n rest ih => simp [numbered, ih]

/-- With room for all of them nothing is lost, and the next sequence number has advanced by their number (R137, R138). -/
theorem State.raiseAll_room_rest (ns : List Note) (h : s.notes.length + ns.length ≤ 63) :
    (s.raiseAll ns).nextSeq = s.nextSeq + BitVec.ofNat 16 ns.length ∧
      (s.raiseAll ns).partCount .notesLost = s.partCount .notesLost := by
  induction ns generalizing s with
  | nil => exact ⟨(BitVec.add_zero _).symm, rfl⟩
  | cons n rest ih =>
    simp only [List.length_cons] at h
    have hr : s.raise n = s.store n := s.raise_room n (show s.notes.length ≤ 62 by omega)
    obtain ⟨h1, h2⟩ := ih (s.raise n) (by rw [hr]; simp [State.store]; omega)
    rw [hr] at h1 h2
    refine ⟨?_, ?_⟩
    · rw [State.raiseAll, hr, h1]
      show s.nextSeq + 1 + _ = _
      rw [List.length_cons, BitVec.ofNat_add, BitVec.add_assoc, BitVec.add_comm (1 : Half)]
      rfl
    · rw [State.raiseAll, hr, h2]; rfl

/-- Behind an unsent LOSS marker, with 63 entries or more, every one is lost and counted by it (R139, R140). -/
theorem State.raiseAll_marked {init : List NoteEntry} {q count : Half} (ns : List Note) (hl : 63 ≤ s.notes.length)
    (h : s.notes = init ++ [marker q count]) :
    (s.raiseAll ns).notes = init ++ [marker q (BitVec.ofNat 16 (saturated count ns.length))] ∧
      (s.raiseAll ns).nextSeq = s.nextSeq ∧
      ((s.raiseAll ns).partCount .notesLost).toNat = saturated (s.partCount .notesLost) ns.length := by
  induction ns generalizing s count with
  | nil =>
    refine ⟨?_, rfl, ?_⟩
    · rw [State.raiseAll, h]
      have hc := count.isLt
      have : saturated count 0 = count.toNat := by unfold saturated; omega
      rw [List.length_nil, this, BitVec.ofNat_toNat, BitVec.setWidth_eq]
    · have hc := (s.partCount .notesLost).isLt
      rw [State.raiseAll, List.length_nil]; unfold saturated; omega
  | cons n rest ih =>
    have hr : s.raise n = { s.countPart .notesLost with notes := init ++ [marker q (satInc count)] } := by
      rw [s.raise_full n hl, s.lose_marked h]
    have hlen : init.length + 1 = s.notes.length := by rw [h]; simp
    obtain ⟨h1, h2, h3⟩ := ih (s.raise n) (count := satInc count) (by rw [hr]; simp; omega) (by rw [hr])
    rw [State.raiseAll]
    refine ⟨?_, ?_, ?_⟩
    · rw [h1, saturated_satInc]; rfl
    · rw [h2, hr]; rfl
    · rw [h3, hr]
      show saturated ((s.countPart .notesLost).partCount .notesLost) _ = _
      rw [State.countPart_count, if_pos rfl, saturated_satInc]; rfl

/-- Notifications that find no room for the last of them: the first ones fill the list to 63 entries, and a LOSS marker
counts the rest (R138 to R140). None of them is itself a LOSS. -/
theorem State.raiseAll_overflow (ns : List Note) {room lost : Nat} (hl : s.notes.length + room = 63)
    (hn : ns.length = room + lost) (h0 : 0 < lost)
    (ht : room = 0 → (s.notes.getLast?.map NoteEntry.openLoss) = some false)
    (hk : ∀ n ∈ ns, ∀ c, n ≠ .loss c) :
    (s.raiseAll ns).notes
        = s.notes ++ numbered s.nextSeq (ns.take room)
          ++ [marker (s.nextSeq + BitVec.ofNat 16 room) (BitVec.ofNat 16 (min lost 65535))] ∧
      (s.raiseAll ns).nextSeq = s.nextSeq + BitVec.ofNat 16 (room + 1) ∧
      ((s.raiseAll ns).partCount .notesLost).toNat = saturated (s.partCount .notesLost) lost := by
  -- the first `room` are stored, the next one is lost and stores the marker, the others are counted
  obtain ⟨x, rest, hd⟩ : ∃ x rest, ns.drop room = x :: rest := by
    cases hd : ns.drop room with
    | nil => have := congrArg List.length hd; simp at this; omega
    | cons x rest => exact ⟨x, rest, rfl⟩
  have hrest : rest.length + 1 = lost := by have := congrArg List.length hd; simp at this; omega
  have htake : (ns.take room).length = room := by rw [List.length_take]; omega
  have hr : s.notes.length + (ns.take room).length ≤ 63 := by omega
  obtain ⟨r, hrdef⟩ : ∃ r, r = s.raiseAll (ns.take room) := ⟨_, rfl⟩
  have r1 : r.notes = s.notes ++ numbered s.nextSeq (ns.take room) := by rw [hrdef]; exact s.raiseAll_room _ hr
  obtain ⟨r2, r3⟩ := s.raiseAll_room_rest _ hr
  rw [← hrdef, htake] at r2
  rw [← hrdef] at r3
  have rlen : r.notes.length = 63 := by rw [r1, List.length_append, numbered_length, htake]; omega
  have rtail : (r.notes.getLast?.map NoteEntry.openLoss) = some false := by
    rw [r1]
    cases hc : ns.take room with
    | nil =>
      rw [hc] at htake
      simp only [numbered, List.append_nil]
      exact ht htake.symm
    | cons a b =>
      obtain ⟨l, n, hln⟩ : ∃ l n, ns.take room = l ++ [n] :=
        ⟨_, _, (List.dropLast_concat_getLast (by rw [hc]; exact List.cons_ne_nil _ _)).symm⟩
      have hnum : ∀ (q : Half) (l : List Note), numbered q (l ++ [n])
          = numbered q l ++ [{ seq := q + BitVec.ofNat 16 l.length, note := n, sent := false }] := by
        intro q l
        induction l generalizing q with
        | nil => simp [numbered]
        | cons y l ih =>
          simp only [List.cons_append, numbered, ih, List.length_cons, BitVec.ofNat_add, BitVec.add_assoc]
          rw [BitVec.add_comm (BitVec.ofNat 16 l.length)]; rfl
      rw [← hc, hln, hnum, ← List.append_assoc, List.getLast?_concat]
      have hnl : ∀ c, n ≠ .loss c :=
        hk n (List.mem_of_mem_take (i := room) (by rw [hln]; exact List.mem_append_right _ (List.mem_singleton_self _)))
      cases n with
      | loss c => exact absurd rfl (hnl c)
      | slotChange _ _ _ _ _ => rfl
      | attention _ => rfl
      | statusReport _ _ => rfl
      | relayResult _ _ _ _ _ => rfl
      | restarted _ => rfl
  have hx : r.raise x = (r.countPart .notesLost).store (.loss 1) := by
    rw [r.raise_full x (by omega), r.lose_unmarked rlen rtail]
  obtain ⟨m1, m2, m3⟩ := (r.raise x).raiseAll_marked (init := r.notes) (q := r.nextSeq) (count := 1) rest
    (by rw [hx]; simp [State.store]; omega) (by rw [hx]; rfl)
  have hall : s.raiseAll ns = (r.raise x).raiseAll rest := by
    have hs : s.raiseAll ns = s.raiseAll (ns.take room ++ ns.drop room) := by rw [List.take_append_drop]
    rw [hs, State.raiseAll_append, hd, hrdef]
    rfl
  rw [hall]
  refine ⟨?_, ?_, ?_⟩
  · rw [m1, r1, r2]
    have : saturated (1 : Half) rest.length = min lost 65535 := by unfold saturated; simp; omega
    rw [this]
  · rw [m2, hx]
    show r.nextSeq + 1 = _
    rw [r2, BitVec.ofNat_add, BitVec.add_assoc]; rfl
  · rw [m3, hx]
    show saturated ((r.countPart .notesLost).partCount .notesLost) _ = _
    rw [State.countPart_count, if_pos rfl, saturated_satInc, hrest, r3]

/-! ### The word of the statements -/

/-- An event whose notifications are raised in order on the list that its instant found raised exactly these. -/
theorem raisedExactly_of_raiseAll {s s' r : State} {ns : List Note} (hn : r.notes = notesAt s s')
    (hq : r.nextSeq = s.nextSeq) (hp : r.partCount .notesLost = s.partCount .notesLost)
    (h1 : s'.notes = (r.raiseAll ns).notes) (h2 : s'.nextSeq = (r.raiseAll ns).nextSeq)
    (h3 : s'.partCount .notesLost = (r.raiseAll ns).partCount .notesLost) (hk : ∀ n ∈ ns, ∀ c, n ≠ .loss c) :
    RaisedExactly s s' ns := by
  have hlen : r.notes.length = s.notes.length := by rw [hn]; exact s.elapse_notes_length _
  unfold RaisedExactly
  rw [h1, h2, h3, ← hn, ← hq, ← hp, ← hlen]
  exact ⟨fun h => ⟨r.raiseAll_room ns h, r.raiseAll_room_rest ns h⟩,
    fun room lost hl hnl h0 ht => r.raiseAll_overflow ns hl hnl h0 ht hk,
    fun init q count hl h => r.raiseAll_marked ns hl h⟩

end Sys2Proof.Machine
end

