-- ==== Sys2Proof/Laws/Requests.lean ====
section
/-! SUPPORT. What a request's command does when its frame is executed: one lemma for the requests that leave the Enable
Sequencer alone, and the codes of slots, entries and records. -/

namespace Sys2Proof.Machine

/-! ### Characters on HRXD (R150, R153, R154) -/

/-- What a receiver takes is what comes: the test of a command's span is the law of the line. -/
theorem State.takesSpan_iff {s : State} {n : Nat} {c : Span} : s.takesSpan n c = true ↔ s.hears n c := by
  unfold State.takesSpan State.hears HostRate.holds EdgeWait.startsAt beforeDue
  simp only [Bool.and_eq_true, decide_eq_true_eq, and_assoc]
  refine and_congr ?_ (and_congr ?_ Iff.rfl)
  · cases s.hrxd.heldLow <;> simp
  · cases s.rxGap <;> simp

/-- Characters on HRXD that come are taken as an event. -/
theorem hostCharacters_taken {s : State} {n : Nat} {c : Span} {possible : Bool} (heldLow : Bool) (act : State → State)
    (ht : s.takes c.stop) (hh : s.hears n c) (hp : possible = true) :
    hostCharacters n c heldLow possible act s
      = .next (finish (s.elapse c.stop) (act ((s.elapse c.stop).lineFree heldLow))) :=
  takeEvent_taken _ ht (by rw [hp, State.takesSpan_iff.mpr hh]; rfl)

/-- A frame whose last character comes is taken as an event. -/
theorem frameEvent_taken {s : State} {f : RequestFrame} {crc : Half} {possible : Bool} (act : State → State)
    (h : s.hearsFrame f crc) (hp : possible = true) :
    frameEvent f.span f.kind f.seq f.payload crc possible act s
      = .next (finish (s.elapse f.span.stop) (act ((s.elapse f.span.stop).lineFree false).hunt)) := by
  obtain ⟨ht, ⟨hr, hh⟩ | ⟨hr, hl, hh⟩⟩ := h
  · exact hostCharacters_taken false _ ht (by rw [hr]; exact hh) (by rw [hr, hp]; simp [HlRx.completes])
  · exact hostCharacters_taken false _ ht (by rw [hr]; exact hh) (by rw [hr, hp, Bool.and_true]; exact decide_eq_true hl)

/-! ### A request executed (R155 to R161) -/

/-- `after` as it stands when the frame of a request to `s` completes at `t`: the clock and HL's receiver moved on, and the
transmitter as the instant finds it. With `s` itself for `after`, the state in which the owner of the request acts. -/
def State.received (s after : State) (t : Nat) : State :=
  { after with now := t, hrxd := { free := t, heldLow := false }, rx := .hunt, rxGap := none, tx := (s.elapse t).tx
               intake := (s.elapse t).intake, restartPending := (s.elapse t).restartPending
               notes := (s.elapse t).notes, resendTimer := (s.elapse t).resendTimer }

theorem State.received_self (s : State) (t : Nat) : ((s.elapse t).lineFree false).hunt = s.received s t :=
  congrArg (fun x : State => (x.lineFree false).hunt) (s.elapse_frame t)

/-- With an empty intake the clock starts no reply. -/
theorem State.elapse_idle {s : State} (h : s.intake = none) (t : Nat) :
    (s.elapse t).intake = none ∧ (s.elapse t).restartPending = s.restartPending := by
  unfold State.elapse
  split
  · unfold State.decideTx
    rw [h]
    simp only
    repeat' split
    all_goals exact ⟨h, rfl⟩
  · exact ⟨h, rfl⟩

/-- A frame that is received is dispatched, and its reply starts at once if it can. -/
theorem requestEvent_received {s : State} {f : RequestFrame} (h : s.receives f) (restart : Option RestartKind)
    (owner : State → State × Reply) :
    requestEvent f.span f.kind f.seq f.payload restart owner s
      = .next (finish (s.elapse f.span.stop)
          ((s.received s f.span.stop).dispatch f.kind f.seq f.payload restart owner).startReady) := by
  obtain ⟨hc, hp, hi, hk⟩ := h
  have he := State.elapse_idle hi f.span.stop
  unfold requestEvent
  rw [frameEvent_taken _ hc rfl, State.received_self]
  congr 3
  have h1 : (s.received s f.span.stop).restartPending.isSome = false := by simp [State.received, he.2, hp]
  have h2 : (s.received s f.span.stop).intake = none := he.1
  have h3 : ∀ c ∈ (s.received s f.span.stop).cache, c.hit f.kind f.seq = false := hk
  unfold State.takeFrame
  simp only [h1, h2, Bool.false_eq_true, if_false]
  cases hcache : (s.received s f.span.stop).cache with
  | none => rfl
  | some e => simp only [h3 e hcache, Bool.false_eq_true, if_false]

/-- What is on HTXD once a frame has started (R149). -/
theorem State.send_tx (s : State) (bytes : List Byte) : (s.send bytes).tx = some (s.frameFrom s.now bytes) := rfl

/-- The start of the reply to a frame that has just entered the intake. -/
theorem startReady_replied {s x : State} {f : RequestFrame} {r : Reply} {restart : Option RestartKind}
    (hp : x.restartPending = none) (hn : x.now = f.span.stop) (hr : x.hostRate = s.hostRate)
    (hi : x.intake = some { kind := f.kind, seq := f.seq, payload := f.payload, reply := r, overrun := false
                            restart := restart }) :
    Replied x.tx s x.startReady f r restart := by
  cases ht : x.tx with
  | none =>
    have h : x.startReady = x.startReply { kind := f.kind, seq := f.seq, payload := f.payload, reply := r
                                           overrun := false, restart := restart } := by
      unfold State.startReady State.txFree; rw [ht, hp, hi]; rfl
    rw [h]
    exact ⟨fun _ => ⟨rfl, rfl, by simp only [State.startReply, State.send_tx, State.frameFrom, hn, hr]⟩,
      fun h' => absurd rfl h'⟩
  | some y =>
    have h : x.startReady = x := by unfold State.startReady State.txFree; rw [ht]; rfl
    rw [h]
    exact ⟨fun h' => absurd h' (by simp), fun _ => ⟨ht, hp, hi⟩⟩

/-- A request whose owner turns the state into `after` and replies `r`, and leaves the Enable Sequencer's state and limits
alone, is executed so. -/
theorem requestEvent_executed {c : Instr} {s after : State} {f : RequestFrame} {r : Reply} {restart : Option RestartKind}
    {owner : State → State × Reply} (h : s.receives f)
    (hexec : exec c s = requestEvent f.span f.kind f.seq f.payload restart owner s)
    (ha : accepts f.kind f.payload.length = true)
    (ho : owner (s.received s f.span.stop) = (s.received after f.span.stop, r))
    (hq : after.admissionQueue = s.admissionQueue) (hc : after.committed = s.committed)
    (he : after.enablingCount = s.enablingCount) (hb : after.params.budgetLimit = s.params.budgetLimit)
    (hs : after.params.staggerLimit = s.params.staggerLimit) (hr : after.hostRate = s.hostRate) :
    Executed c s after f r restart := by
  have hx := State.elapse_idle h.2.2.1 f.span.stop
  unfold Executed
  rw [hexec, requestEvent_received h]
  simp only [State.dispatch, ha, if_true, ho]
  rw [finish_quiet _ _ (by simpa [State.received, State.enter] using hq) (by simpa [State.received, State.enter] using hc)
    (by simpa [State.received, State.enter] using he) (by simpa [State.received, State.enter] using hb)
    (by simpa [State.received, State.enter] using hs)]
  refine ⟨_, rfl, ⟨?_, ?_, ?_, ?_⟩, ?_, ?_, ?_⟩
  · simp [State.received, State.enter]
  · simp [State.received, State.enter]
  · simp [State.received, State.enter]
  · simp [State.received, State.enter]
  · simp [State.received, State.enter]
  · exact startReady_replied
      (x := { s.received after f.span.stop with cache := some { seq := f.seq, kind := f.kind, reply := r } }.enter
        f.kind f.seq f.payload r restart) (hx.2.trans h.2.1) rfl hr rfl
  · refine (State.startReady_frame _).trans ?_
    simp [State.received, State.enter]

theorem slotOf_eq {b : Byte} {i : Slot} (h : b.toNat = i.val + 1) : slotOf b = some i := by
  have h0 : b ≠ 0 := by rintro rfl; simp at h
  unfold slotOf
  rw [dif_pos (by omega), if_neg h0]
  congr 1
  exact Fin.ext (by simp only; omega)

theorem slotOf_none {b : Byte} (h : b.toNat = 0 ∨ 24 < b.toNat) : slotOf b = none := by
  unfold slotOf
  split
  · next hlt =>
    have : b = 0 := BitVec.eq_of_toNat_eq (by simp; omega)
    rw [if_pos this]
  · rfl

theorem entryOf_eq {b : Byte} {k : Fin 16} (h : b.toNat = k.val) : entryOf b = some k := by
  unfold entryOf; rw [dif_pos (by omega)]; exact congrArg some (Fin.ext h)

theorem entryOf_none {b : Byte} (h : 15 < b.toNat) : entryOf b = none := by
  unfold entryOf; rw [dif_neg (by omega)]

theorem beaconOf_eq {b : Byte} {k : Fin 8} (h : b.toNat = k.val) : beaconOf b = some k := by
  unfold beaconOf; rw [dif_pos (by omega)]; exact congrArg some (Fin.ext h)

theorem beaconOf_none {b : Byte} (h : 7 < b.toNat) : beaconOf b = none := by
  unfold beaconOf; rw [dif_neg (by omega)]

theorem ParamId.ofCode_code (p : ParamId) : ParamId.ofCode p.code = some p := by cases p <;> rfl

theorem ParamId.ofCode_none {b : Byte} (h : b.toNat = 0 ∨ 17 < b.toNat) : ParamId.ofCode b = none := by
  have : ∀ p ∈ ParamId.all, ¬(decide (p.code = b) = true) := by
    intro p _ hp
    have hb := of_decide_eq_true hp
    subst hb
    cases p <;> simp [ParamId.code] at h
  exact List.find?_eq_none.mpr this

/-- A record taken off the due list, and the WAITING window that this ends (R131). -/
theorem State.dropDue_eq (s : State) (k : Fin 8) :
    s.dropDue k
      = { s with
          cycle :=
            { s.cycle with
              due := s.cycle.due.filter (fun j => j ≠ k)
              window := if s.cycle.due.filter (fun j => j ≠ k) = [] ∧ s.cycle.window = .waiting then .none
                        else s.cycle.window } } := by
  simp only [State.dropDue, List.isEmpty_iff, Bool.and_eq_true]
  congr 3
  exact propext (and_congr_right fun _ => by rw [decide_eq_true_eq])

end Sys2Proof.Machine
end

