-- ==== Sys2Proof/Tests/Slice0.lean ====
section
/-! SUPPORT. Tests: ill-formed terms, the spec's check values and worked examples, and for each statement of
Sys2Proof/Certificates/Slice0/Obligations.lean that has hypotheses a state and operands that meet them. -/

namespace Sys2Proof.Tests

open Sys2Proof.Machine

-- The kernel evaluates most of these tests: one after the other, not each in a thread that waits for those before it.
set_option Elab.async false

/-! ### Ill-formed terms, refused -/

/-- A command of each kind that carries characters, with everything but their span well formed. -/
def spanned (c : Span) : List Instr :=
  [.hlFramingError c, .hlLengthAbort c 57, .hlCrcError c 1 5 [] (frameCrc 1 5 [] + 1), .unknownKindFrame c 0x13 5 [],
    .ident c 5, .restartWarm c 5, .restartCold c 5, .slotQuery c 5 3, .release c 5 3, .clear c 5 3, .slotIdentity c 5 3,
    .admissionWrite c 5 0 ⟨0, 0, 0, 0, 0, 0, 1⟩, .admissionRead c 5 0, .admitSlot c 5 3, .relay c 5 3 [7],
    .beaconWrite c 5 0 1 1 0 [7], .beaconStop c 5 0, .beaconRead c 5 0, .noteAck c 5 0, .setParam c 5 1 20,
    .getParam c 5 1, .countersRead c 5 0, .countersClear c 5 0, .hlGoodCharacter c 0xA5]

theorem test_characters_take_time :
    (spanned ⟨1, 1⟩).all (fun c => !c.wellFormed) = true ∧ (spanned ⟨0, 1⟩).all Instr.wellFormed = true := by
  decide +kernel

theorem test_start_bit_ends_no_earlier_than_it_begins :
    (Instr.responseStartBit ⟨2, 1⟩).wellFormed = false ∧ (Instr.responseStartBit ⟨1, 1⟩).wellFormed = true := by decide

theorem test_character_begins_with_a_low_bit :
    (Instr.responseError 0 1).wellFormed = false ∧ (Instr.responseCheckByte 0 1).wellFormed = false ∧
      (Instr.responseCharacter 0 1).wellFormed = false ∧ (Instr.responseError 0 0).wellFormed = true ∧
      (Instr.responseCheckByte 0 0x400).wellFormed = true ∧ (Instr.responseCharacter 0 0x600).wellFormed = true := by decide

theorem test_length_abort_needs_len_above_56 :
    (Instr.hlLengthAbort ⟨0, 82⟩ 56).wellFormed = false ∧ (Instr.hlLengthAbort ⟨0, 82⟩ 57).wellFormed = true := by decide

theorem test_crc_error_needs_a_wrong_crc :
    (Instr.hlCrcError ⟨0, 82⟩ 1 5 [] (frameCrc 1 5 [])).wellFormed = false ∧
      (Instr.hlCrcError ⟨0, 82⟩ 1 5 [] (frameCrc 1 5 [] + 1)).wellFormed = true := by decide +kernel

theorem test_crc_error_payload_at_most_56 :
    (Instr.hlCrcError ⟨0, 82⟩ 1 5 (List.replicate 57 0) (frameCrc 1 5 (List.replicate 57 0) + 1)).wellFormed = false := by
  decide +kernel

theorem test_unknown_kind_frame_spells_no_request :
    (Instr.unknownKindFrame ⟨0, 82⟩ 0x01 5 []).wellFormed = false ∧
      (Instr.unknownKindFrame ⟨0, 82⟩ 0x02 5 [2]).wellFormed = false ∧
      (Instr.unknownKindFrame ⟨0, 82⟩ 0x02 5 [3]).wellFormed = true ∧
      (Instr.unknownKindFrame ⟨0, 82⟩ 0x01 5 [0]).wellFormed = true ∧
      (Instr.unknownKindFrame ⟨0, 82⟩ 0x13 5 []).wellFormed = true := by decide

theorem test_unknown_kind_payload_at_most_56 :
    (Instr.unknownKindFrame ⟨0, 82⟩ 0x99 5 (List.replicate 57 0)).wellFormed = false := by decide

theorem test_relay_payload_is_1_to_24_bytes :
    (Instr.relay ⟨0, 82⟩ 5 1 []).wellFormed = false ∧
      (Instr.relay ⟨0, 82⟩ 5 1 (List.replicate 25 0)).wellFormed = false ∧
      (Instr.relay ⟨0, 82⟩ 5 1 (List.replicate 24 0)).wellFormed = true := by decide

theorem test_beacon_payload_is_1_to_32_bytes :
    (Instr.beaconWrite ⟨0, 82⟩ 5 0 1 1 0 []).wellFormed = false ∧
      (Instr.beaconWrite ⟨0, 82⟩ 5 0 1 1 0 (List.replicate 33 0)).wellFormed = false ∧
      (Instr.beaconWrite ⟨0, 82⟩ 5 0 1 1 0 (List.replicate 32 0)).wellFormed = true := by decide

/-! ### Characters on SBDAT (R99, R107) -/

/-- The byte 0x83 from the stop bit down to the start bit: 1, parity 0, 1000 0011, 0; and how each fault of it is classified:
the stop bit low, with the parity wrong too; the parity wrong; the start bit high. -/
theorem test_character_of_an_address :
    busCharacter 0x83 = 0b10100000110 ∧ busChar 0b10100000110 = some (.good 0x83) ∧
      busChar 0b00100000110 = some .framingError ∧ busChar 0b01100000110 = some .framingError ∧
      busChar 0b11100000110 = some .parityError ∧ busChar 0b10100000111 = none := by decide

/-- The same byte on HTXD, from the stop bit down to the start bit: 1, 1000 0011, 0 (R149). -/
theorem test_host_character : hostCharacter 0x83 = 0b1100000110 ∧ hostCharacter 0x01 = 0b1000000010 := by decide

/-- The frame of a reply goes out as such characters, its SYNC first. -/
theorem test_host_character_of_a_reply :
    ((State.reset.send [0xA5, 0x00]).tx.map TxFrame.chars) = some [0b1101001010, 0b1000000000] := by decide

/-! ### Check values and layouts of chapter 11 -/

/-- The check values over the text 123456789 (R175). -/
theorem test_check_values :
    crc16 [0x31, 0x32, 0x33, 0x34, 0x35, 0x36, 0x37, 0x38, 0x39] = 0x29B1 ∧
      crc8 [0x31, 0x32, 0x33, 0x34, 0x35, 0x36, 0x37, 0x38, 0x39] = 0xF4 := by decide +kernel

/-- An ACTIVE slot as section 11.5 supposes it. -/
def readySlot : SlotRecord :=
  { SlotRecord.cold with
    state := .active, reason := .ready, admittedBy := some .table
    lastStatus := some { condition := .ready, standDown := false, faultCode := 0, text := [] } }

/-- The SLOT_QUERY reply of section 11.5: LEN, KIND, SEQ and payload. -/
theorem test_slot_query_reply_of_11_5 :
    covered 0x03 41 ((Reply.ok readySlot.queryBytes).payload true)
      = [8, 0x03, 41, 0x00, 0x01, 6, 13, 0x00, 0, 1, 0x02] := by decide +kernel

/-- The frame of 14 characters and its time at 115 200 baud (section 9.10: 1215.2 us; log 15). -/
theorem test_reply_time_of_9_10 :
    (hostFrame 0x03 41 [0, 1, 6, 13, 0, 0, 1, 2]).length = 14 ∧ HostRate.b115200.time 14 = 1215 := by decide +kernel

theorem test_ident_reply : identReply = .ok [0x18, 0x0C, 0x01, 24, 1] := by decide

/-! ### The admission table of sections 3.4 and 3.8 -/

def entry (valid : Bool) (vendor : Option Half) (cls : Option Byte) (rev : Byte) (a : AdmitAction) : AdmissionEntry :=
  { valid := valid, vendorMatch := if vendor.isSome then .exact else .any, vendor := vendor.getD 0
    classMatch := if cls.isSome then .exact else .any, cls := cls.getD 0, minRevision := rev, action := a }

def identity (vendor : Half) (cls rev : Byte) (units : Nat) (ready : ReadyMethod) : Identity :=
  { vendor := vendor, cls := cls, revision := rev, serial := 1, units := units, ready := ready, name := [] }

/-- Table 3-5. -/
def table : List AdmissionEntry :=
  [entry true (some 0x0A31) (some 4) 2 .admitModule, entry true none (some 9) 0 .refuse,
    entry true (some 0x0A31) (some 4) 5 .hold,
    entry false (some 0x0C00) none 0 .admitModule, entry true none none 0 .hold]

theorem test_entry_example_of_3_4 :
    (entry true (some 0x0A31) none 4 .admitModule).matchesIdentity (identity 0x0A31 17 4 1 .poll) = true ∧
      (entry true (some 0x0A31) none 4 .admitModule).matchesIdentity (identity 0x0A31 17 3 1 .poll) = false ∧
      (entry true (some 0x0A31) none 4 .admitModule).matchesIdentity (identity 0x0A30 4 9 1 .poll) = false := by decide

theorem test_evaluations_of_table_3_6 :
    evaluate table (identity 0x0A31 4 3 12 .poll) = .admitModule ∧ evaluate table (identity 0x0A31 4 1 20 .pulse) = .hold ∧
      evaluate table (identity 0x1B02 9 7 8 .pulse) = .refuse ∧
      evaluate table (identity 0x0A31 4 6 62 .poll) = .admitModule := by
  decide

/-- Load units 0 and 64 are not valid, 1 and 63 are (R49). -/
theorem test_identity_units :
    identityOf [0x31, 0x0A, 4, 3, 1, 0, 0, 0, 0, 2, 0] = none ∧
    identityOf [0x31, 0x0A, 4, 3, 1, 0, 0, 0, 64, 2, 0] = none ∧
      identityOf [0x31, 0x0A, 4, 3, 1, 0, 0, 0, 12, 2, 0] = some (identity 0x0A31 4 3 12 .poll) := by decide +kernel

/-! ### States for the witnesses -/

/-- Slot 3, which the witnesses use. -/
def slot3 : Slot := 2

def timer0 : Timer := { start := 0, dur := 1000 }

def budget (n : Nat) : Params := { Params.cold with budgetLimit := n }

/-- The reset state with slot 3's record replaced. -/
def withSlot (r : SlotRecord) : State := State.reset.updSlot slot3 fun _ => r

/-- And slot 3's classifier. -/
def withLine (r : SlotRecord) (c : Classifier) : State := (withSlot r).setClassifier slot3 c

/-- A seated slot with an identity of 12 units. -/
def seated (st : SlotState) (ready : ReadyMethod) : SlotRecord :=
  { SlotRecord.cold with state := st, identity := some (identity 0x0A31 4 3 12 ready), enable := st.powered }

/-- Slot 3 waits in the admission queue, with the budget limit at 20. -/
def queued3 : State := { withSlot (seated .queued .poll) with admissionQueue := [slot3], params := budget 20 }

/-- Slots 3 and 1 wait, of 12 and 4 units, and neither may be granted: 20 units of 20 are committed. -/
def queued31 : State :=
  { queued3.updSlot 0 fun _ => { seated .queued .poll with identity := some (identity 0x0A31 4 3 4 .poll) } with
    admissionQueue := [slot3, 0], committed := 20 }

/-- A transaction of slot 3. -/
def work3 (w : Work) (attempts : Nat) : Transaction := { slot := slot3, work := w, attempts := attempts, busy := 0 }

/-- An attempt of it is in progress, for a slot and with the engine so, its mark clear or set. -/
def attemptOf (x : Transaction) (r : SlotRecord) (e : Engine) (discard : Bool) : State :=
  { withSlot r with engine := e, inFlight := some { tx := x, discard := discard } }

/-- An IDENTIFY of a slot in IDENTIFYING. -/
def identify3 : Transaction := work3 .identify 0
def attempt (e : Engine) (discard : Bool) : State := attemptOf identify3 { SlotRecord.cold with state := .identifying } e discard

/-- In AWAIT, the response timeout running. -/
def awaiting (r : CharReceiver) : Engine :=
  { Engine.cold 0 with state := .await, responseTimeout := some timer0, receiver := r }

/-- Within a character that is complete at 42 (at 250 kbit/s). -/
def forming : CharReceiver := .inCharacter { start := 0, dur := 42 }

/-- In RECEIVE at a position, within a character. -/
def receiveAt (p : RxField) (payload : List Byte) : Engine :=
  { Engine.cold 0 with state := .receive, position := p, rxPayload := payload, receiver := forming }

/-- Between two characters of the response. -/
def between : Engine := { receiveAt .length [] with gap := some timer0, receiver := waitingFrom 0 false }

/-- Draining, between two characters. -/
def drainingWith (k : FailureKind) (r : CharReceiver) : Engine :=
  { receiveAt .address [] with
    draining := true, drainIdle := some timer0, drainLimit := some timer0, outcome := some (.failed k), receiver := r }

/-- A frame on HTXD that ends at 1000. -/
def onWire : TxFrame := { chars := [hostCharacter 0xA5], timer := timer0 }

/-- A reply that waits in the intake. -/
def waiting : Intake := { kind := 1, seq := 5, payload := [], reply := identReply, overrun := false, restart := none }

def note (n : Half) (sent : Bool) : NoteEntry := { seq := n, note := .attention slot3, sent := sent }

/-- `n` unsent entries. -/
def unsent (n : Nat) : List NoteEntry := (List.range n).map fun k => note (BitVec.ofNat 16 k) false

/-- The span of `n` characters from 0 on at 115 200 baud, as short as it can be. -/
def spanOf (n : Nat) : Span := { start := 0, stop := HostRate.b115200.receiveTime n }

/-- Every state made from the reset state takes events from the instant 0 on. -/
theorem reset_takes (t : Nat) : State.reset.takes t := ⟨rfl, Nat.zero_le t⟩
theorem withSlot_takes (r : SlotRecord) (t : Nat) : (withSlot r).takes t := ⟨rfl, Nat.zero_le t⟩
theorem withLine_takes (r : SlotRecord) (c : Classifier) (t : Nat) : (withLine r c).takes t := ⟨rfl, Nat.zero_le t⟩
theorem attemptOf_takes (x : Transaction) (r : SlotRecord) (e : Engine) (d : Bool) (t : Nat) : (attemptOf x r e d).takes t :=
  ⟨rfl, Nat.zero_le t⟩

theorem withSlot_self (r : SlotRecord) : (withSlot r).slot slot3 = r := State.updSlot_slot_self _ _ _
theorem withLine_self (r : SlotRecord) (c : Classifier) : (withLine r c).classifier slot3 = c :=
  State.setClassifier_self _ _ _
theorem attemptOf_self (x : Transaction) (r : SlotRecord) (e : Engine) (d : Bool) : (attemptOf x r e d).slot slot3 = r :=
  withSlot_self r

/-- The first sample of a line is that of the instant 0: an edge can come from the next one on. -/
theorem withLine_edge (r : SlotRecord) (c : Classifier) : (withLine r c).edges[slot3] < 1 := (by decide : 0 < 1)

theorem formed_42 (x : Transaction) (r : SlotRecord) (p : RxField) (payload : List Byte) (d : Bool) :
    (attemptOf x r (receiveAt p payload) d).formed 42 := ⟨_, rfl, by decide⟩

/-- HRXD is free from 0 on: characters from 0 on are heard. -/
theorem hears_span {s : State} (n : Nat) (h1 : s.hrxd = { free := 0, heldLow := false }) (h2 : s.rxGap = none)
    (h3 : s.hostRate = .b115200) : s.hears n (spanOf n) := by
  refine ⟨?_, fun m hm => (by rw [h2] at hm; cases hm), ?_, ?_⟩
  · rw [h1]; exact Nat.le_refl 0
  all_goals simp only [h3, spanOf]; omega

/-- In the reset state, whatever slot 3's record, the receiver hunts and the intake and the cache are empty: every request
frame of at most 56 bytes of payload is received. -/
theorem reset_receives (kind seq : Byte) (payload : List Byte) {n : Nat} (h : n = payload.length + 6) (hn : n ≤ 62) :
    State.reset.receives ⟨spanOf n, kind, seq, payload⟩ := by
  subst h
  exact ⟨⟨reset_takes _, .inr ⟨rfl, Nat.le_of_add_le_add_right hn, hears_span _ rfl rfl rfl⟩⟩, rfl, rfl,
    fun _ hc => (by cases hc)⟩

theorem withSlot_receives (r : SlotRecord) (kind seq : Byte) (payload : List Byte) {n : Nat} (h : n = payload.length + 6)
    (hn : n ≤ 62) : (withSlot r).receives ⟨spanOf n, kind, seq, payload⟩ := by
  subst h
  exact ⟨⟨withSlot_takes r _, .inr ⟨rfl, Nat.le_of_add_le_add_right hn, hears_span _ rfl rfl rfl⟩⟩, rfl, rfl,
    fun _ hc => (by cases hc)⟩

/-- No slot waits in the admission queue and none is QUEUED. -/
theorem withSlot_queueLaw (r : SlotRecord) (h : r.state ≠ .queued) : QueueLaw (withSlot r) := by
  refine ⟨List.nodup_nil, fun i => ?_, fun i hi => by cases hi⟩
  have hs : (withSlot r).slot i = if i = slot3 then r else SlotRecord.cold := by
    rw [withSlot, State.updSlot_slot]
    split
    · rfl
    · simp [State.slot, State.reset, State.cold]
  rw [hs]
  split
  · exact ⟨fun hm => (by cases hm), fun hq => absurd hq h⟩
  · exact ⟨fun hm => (by cases hm), fun hq => (by cases hq)⟩

theorem withLine_queueLaw (r : SlotRecord) (c : Classifier) (h : r.state ≠ .queued) : QueueLaw (withLine r c) :=
  withSlot_queueLaw r h

theorem attemptOf_queueLaw (x : Transaction) (r : SlotRecord) (e : Engine) (d : Bool) (h : r.state ≠ .queued) :
    QueueLaw (attemptOf x r e d) := withSlot_queueLaw r h

theorem queued3_queueLaw : QueueLaw queued3 := by unfold QueueLaw; decide +kernel

/-! ### Witnesses: for each statement, states and operands that meet its hypotheses together -/

theorem wit_StepRunsTheFrontCommand : State.reset.pending = [] := rfl

theorem wit_CommandsKeepQueueAndTime :
    ({ State.reset with resetN := false } : State).resetN = false ∧
      (∀ t r1 r0 levels, Instr.cycleStart 0 ≠ .resetNRise t r1 r0 levels) ∧ 0 ≤ State.reset.edges[slot3] :=
  ⟨rfl, fun _ _ _ _ h => (by cases h), Nat.zero_le _⟩

theorem wit_ColdResetHoldsColdValues : State.reset.takes 0 := reset_takes 0

theorem wit_ResetNRiseStartsThePart :
    ({ State.reset with resetN := false } : State).resetN = false ∧
    ({ State.reset with resetN := false } : State).now ≤ 0 :=
  ⟨rfl, Nat.le_refl 0⟩

/-- The notification list with room for one more, of one or of four notifications, with none but for a LOSS marker, and with an
open marker at its end: the hypotheses of RaisedExactly's clauses on it. -/
theorem wit_notifications_at_the_limit :
    (unsent 62).length + 1 = 63 ∧ (unsent 62).length + 1 ≤ 63 ∧ 4 = 1 + 3 ∧ (unsent 63).length + 0 = 63 ∧
      ((unsent 63).getLast?.map NoteEntry.openLoss) = some false ∧
      (unsent 62 ++ [marker 62 1]).length = 63 ∧ (unsent 63 ++ [marker 63 7]).length = 64 ∧
      ((unsent 63 ++ [marker 63 7]).getLast?.map NoteEntry.openLoss) = some true := by decide +kernel

theorem wit_EdgeInInitRestartsSettling :
    State.reset.takes 1 ∧ State.reset.edges[slot3] < 1 ∧
      State.reset.classifier slot3 = .init (some (false, { start := 0, settle := 50 })) :=
  ⟨reset_takes 1, (by decide : 0 < 1), by decide +kernel⟩

/-- Both levels, at the first instant at which the deadline can be taken (accuracy 250 us and one tick). -/
theorem wit_SettleDeadlineIsFirstEvaluation (level : Bool) :
    (withLine SlotRecord.cold (.init (some (level, { start := 0, settle := 50 })))).takes 49749 ∧
      (withLine SlotRecord.cold (.init (some (level, { start := 0, settle := 50 })))).classifier slot3
        = .init (some (level, { start := 0, settle := 50 })) ∧
      ({ start := 0, settle := 50 } : Settle).due 49749 = true ∧
      ({ start := 0, settle := 50 } : Settle).due 49748 = false ∧
      ((withLine SlotRecord.cold (.init (some (level, { start := 0, settle := 50 })))).slot slot3).state = .unknown :=
  ⟨withLine_takes _ _ _, withLine_self _ _, by decide, by decide, congrArg SlotRecord.state (withSlot_self _)⟩

theorem wit_RisingEdgeInLowStartsSettling :
    (withLine SlotRecord.cold .low).takes 1 ∧ (withLine SlotRecord.cold .low).edges[slot3] < 1 ∧
      (withLine SlotRecord.cold .low).classifier slot3 = .low :=
  ⟨withLine_takes _ _ _, withLine_edge _ _, withLine_self _ _⟩

theorem wit_FallInRiseSettlingIsBounce :
    (withLine SlotRecord.cold (.riseSettling { start := 0, settle := 50 })).takes 1 ∧
      (withLine SlotRecord.cold (.riseSettling { start := 0, settle := 50 })).edges[slot3] < 1 ∧
      (withLine SlotRecord.cold (.riseSettling { start := 0, settle := 50 })).classifier slot3
        = .riseSettling { start := 0, settle := 50 } := ⟨withLine_takes _ _ _, withLine_edge _ _, withLine_self _ _⟩

theorem wit_RiseSettleDeadlineIsArrival (r : SlotRecord) (h : r.state = .vacant) :
    (withLine r (.riseSettling { start := 0, settle := 50 })).takes 50000 ∧
      (withLine r (.riseSettling { start := 0, settle := 50 })).classifier slot3
        = .riseSettling { start := 0, settle := 50 } ∧
      ({ start := 0, settle := 50 } : Settle).due 50000 = true ∧
      ((withLine r (.riseSettling { start := 0, settle := 50 })).slot slot3).state = .vacant :=
  ⟨withLine_takes _ _ _, withLine_self _ _, by decide, (congrArg SlotRecord.state (withSlot_self r)).trans h⟩

theorem wit_FallInHighStartsLowTime :
    (withLine SlotRecord.cold .high).takes 1 ∧ (withLine SlotRecord.cold .high).edges[slot3] < 1 ∧
      (withLine SlotRecord.cold .high).classifier slot3 = .high :=
  ⟨withLine_takes _ _ _, withLine_edge _ _, withLine_self _ _⟩

/-- A fall at 0 with G = 20 us and A = 2 ms; the pulses at the ends of Table 2-4's ranges. -/
def fall0 : LowTime := { start := 0, glitch := 20, attn := 20 }

theorem wit_LowPulseIsClassifiedByLength (r : SlotRecord) (h : r.state ≠ .queued) (t : Nat) (ht : 1 ≤ t) :
    (withLine r (.fallMeasuring fall0)).takes t ∧ (withLine r (.fallMeasuring fall0)).edges[slot3] < t ∧
      QueueLaw (withLine r (.fallMeasuring fall0)) ∧
      (withLine r (.fallMeasuring fall0)).classifier slot3 = .fallMeasuring fall0 ∧
      fall0.measures 19 19 = true ∧ 19 < fall0.glitch ∧ fall0.measures 20 20 = true ∧ fall0.glitch ≤ 20 ∧
      fall0.measures 1999 1999 = true ∧ 1999 < fall0.attn * 100 ∧ fall0.measures 2000 2000 = true ∧
      fall0.attn * 100 ≤ 2000 :=
  ⟨withLine_takes _ _ _, Nat.lt_of_lt_of_le (withLine_edge _ _) ht, withLine_queueLaw _ _ h, withLine_self _ _, by decide,
    by decide, by decide, by decide, by decide, by decide, by decide, by decide⟩

/-- Each state of Table 1-5 but QUEUED with the witness above; the ready methods of ENABLING; QUEUED. -/
theorem wit_AttentionActsByState :
    (∀ st, ((withLine (seated st .poll) (.fallMeasuring fall0)).slot slot3).state = st) ∧
      (∀ ready, ((withLine (seated .enabling ready) (.fallMeasuring fall0)).slot slot3).identity.map Identity.ready
        = some ready) ∧
      fall0.measures 20 20 = true ∧ fall0.measures 1999 1999 = true ∧
      (queued3.setClassifier slot3 (.fallMeasuring fall0)).takes 20 ∧
      (queued3.setClassifier slot3 (.fallMeasuring fall0)).edges[slot3] < 20 ∧
      QueueLaw (queued3.setClassifier slot3 (.fallMeasuring fall0)) ∧
      (queued3.setClassifier slot3 (.fallMeasuring fall0)).classifier slot3 = .fallMeasuring fall0 ∧
      ((queued3.setClassifier slot3 (.fallMeasuring fall0)).slot slot3).state = .queued :=
  ⟨fun _ => congrArg SlotRecord.state (withSlot_self _),
    fun _ => congrArg (fun r : SlotRecord => r.identity.map Identity.ready) (withSlot_self _), by decide, by decide,
    ⟨rfl, Nat.zero_le _⟩, (by decide : 0 < 20), queued3_queueLaw, State.setClassifier_self _ _ _, by decide +kernel⟩

/-- The cases of `Enters`: no internal entry of the slot, one of the kind entered, and one of another kind, behind a relay. -/
theorem wit_Enters :
    (∀ x ∈ [work3 (.relay 1 [7]) 0, .fresh 0 .status], x.internalOf slot3 = false) ∧
      (∀ y ∈ [work3 (.relay 1 [7]) 0], y.internalOf slot3 = false) ∧ (work3 .status 2).internalOf slot3 = true ∧
      (work3 .status 2).work = .status ∧ (work3 .status 2).work ≠ .standDown := by decide

/-- A powered slot and one in IDENTIFYING, at the first instant at which A can be taken as reached; with a relay of the slot in
flight and one queued, to be cancelled in this order. -/
theorem wit_LowTimeDeadlineIsDeparture :
    (withLine (seated .active .poll) (.fallMeasuring fall0)).takes 1989 ∧
      QueueLaw (withLine (seated .active .poll) (.fallMeasuring fall0)) ∧
      (withLine (seated .active .poll) (.fallMeasuring fall0)).classifier slot3 = .fallMeasuring fall0 ∧
      fall0.due 1989 = true ∧ fall0.due 1988 = false ∧
      ((withLine SlotRecord.cold (.fallMeasuring fall0)).slot slot3).identity = none ∧
      (withLine (seated .active .poll) (.fallMeasuring fall0)).admissionQueue = [] ∧
      ({ State.reset with inFlight := some ⟨work3 (.relay 1 [7]) 1, false⟩, transactions := [work3 (.relay 2 [7]) 0] } :
          State).cancelResults slot3
        = [.relayResult 1 slot3 .cancelled 1 0, .relayResult 2 slot3 .cancelled 0 0] :=
  ⟨withLine_takes _ _ _, withLine_queueLaw _ _ (by decide), withLine_self _ _, by decide, by decide,
    congrArg SlotRecord.identity (withSlot_self _), rfl, by decide +kernel⟩

theorem wit_PowerupDeadlineFaults (r : SlotRecord) (h : r.state = .enabling) (hp : r.powerup = some timer0) :
    (withSlot r).takes 994 ∧ QueueLaw (withSlot r) ∧ ((withSlot r).slot slot3).state = .enabling ∧
      ((withSlot r).slot slot3).powerup = some timer0 ∧ timer0.due 994 = true ∧ timer0.due 993 = false := by
  rw [withSlot_self]
  exact ⟨withSlot_takes _ _, withSlot_queueLaw _ (by rw [h]; decide), h, hp, by decide, by decide⟩

theorem wit_PollAndHealthTimersRepeat :
    (withSlot { seated .enabling .poll with poll := some timer0 }).takes 1000 ∧ timer0.due 1000 = true ∧
      ((withSlot { seated .enabling .poll with poll := some timer0 }).slot slot3).state = .enabling ∧
      ((withSlot { seated .enabling .poll with poll := some timer0 }).slot slot3).poll = some timer0 ∧
      (withSlot { seated .active .poll with health := some timer0 }).takes 1000 ∧
      ((withSlot { seated .active .poll with health := some timer0 }).slot slot3).state = .active ∧
      ((withSlot { seated .active .poll with health := some timer0 }).slot slot3).health = some timer0 := by
  simp only [withSlot_self]
  exact ⟨withSlot_takes _ _, by decide, by decide, trivial, withSlot_takes _ _, by decide, trivial⟩

theorem wit_DrainTimerParks (confirmed : Bool) :
    (withSlot { seated .releasing .poll with drain := some timer0, standDownConfirmed := confirmed }).takes 1000 ∧
      QueueLaw (withSlot { seated .releasing .poll with drain := some timer0, standDownConfirmed := confirmed }) ∧
      ((withSlot { seated .releasing .poll with drain := some timer0, standDownConfirmed := confirmed }).slot slot3).state
        = .releasing ∧
      ((withSlot { seated .releasing .poll with drain := some timer0, standDownConfirmed := confirmed }).slot slot3).drain
        = some timer0 ∧
      timer0.due 1000 = true := by
  simp only [withSlot_self]
  exact ⟨withSlot_takes _ _, withSlot_queueLaw _ (show SlotState.releasing ≠ .queued by decide), rfl, trivial,
    by decide⟩

/-- The last instant before the quiet point, and the quiet point itself. -/
def oneWaits : State := { State.reset with transactions := [identify3] }

theorem wit_AttemptStartTakesTheHead :
    oneWaits.takes 7999 ∧ oneWaits.engine.state = .idle ∧ oneWaits.transactions = identify3 :: [] ∧
      oneWaits.cycle.window = .none ∧ 7999 < oneWaits.cycle.quiet ∧ 8000 = oneWaits.cycle.quiet ∧
      oneWaits.cycle.quietTaken = false := ⟨⟨rfl, Nat.zero_le _⟩, rfl, rfl, rfl, by decide, by decide, rfl⟩

theorem wit_FramesStartBeforeTheQuietPoint :
    ParamLaw oneWaits ∧
      ∃ s', exec (.attemptStart 8000) oneWaits = .next s' ∧ oneWaits.engine.state.drives = false ∧
        s'.engine.state.drives = true :=
  ⟨⟨fun id => by cases id <;> rfl, by decide, by decide⟩, _, rfl, rfl, by decide +kernel⟩

theorem wit_FrameEndReleasesTheLine :
    (attempt { Engine.cold 0 with state := .request, wire := some timer0 } false).takes 1000 ∧
      (attempt { Engine.cold 0 with state := .request, wire := some timer0 } false).engine.wire = some timer0 ∧
      timer0.due 1000 = true ∧
      (attempt { Engine.cold 0 with state := .request, wire := some timer0 } false).engine.state = .request ∧
      ({ State.reset with engine := { Engine.cold 0 with state := .beacon, wire := some timer0 } } : State).engine.wire
        = some timer0 ∧
      ({ State.reset with engine := { Engine.cold 0 with state := .beacon, wire := some timer0 } } : State).engine.state
        = .beacon := ⟨attemptOf_takes _ _ _ _ _, rfl, by decide, rfl, rfl, rfl⟩

/-- The states in which a start bit is refused; and a start bit whose edge comes at the very limit of the wait, or strictly
after a low stop bit, in AWAIT, between two characters, while draining and in IDLE. -/
theorem wit_StartBitBeginsOrContinuesTheResponse :
    (attempt (receiveAt .length []) false).takes 2 ∧
      (attempt (receiveAt .length []) false).engine.receiver = .inCharacter { start := 0, dur := 42 } ∧
      (attempt (awaiting (waitingFrom 0 true)) false).engine.receiver = .waiting { free := 0, heldLow := true } ∧
      (∀ w : EdgeWait, w.heldLow = true → w.free = 0 → 0 ≤ w.free ∧
        if w.heldLow = true then w.free < 1 else w.free ≤ 1) ∧
      (∀ e ∈ [Engine.cold 0, awaiting (waitingFrom 0 false), between, drainingWith .parity (waitingFrom 0 false)],
        (attempt e false).takes 1002 ∧ (attempt e false).engine.sbdir = false ∧
          (attempt e false).engine.receiver = .waiting { free := 0, heldLow := false } ∧
          (∀ limit : Timer, limit ∈ e.responseTimeout ∨ limit ∈ e.gap ∨ limit ∈ e.drainIdle →
            1000 ≤ limit.start + limit.dur) ∧
          1002 = 1000 + (attempt e false).engine.rate.bitTime / 2) := by
  refine ⟨attemptOf_takes _ _ _ _ _, rfl, rfl, fun w hw hf => by simp [hw, hf], fun e he => ⟨attemptOf_takes _ _ _ _ _, ?_⟩⟩
  simp only [List.mem_cons, List.not_mem_nil, or_false] at he
  rcases he with rfl | rfl | rfl | rfl <;>
    exact ⟨rfl, rfl, by simp [Engine.cold, awaiting, between, drainingWith, receiveAt, timer0], rfl⟩

/-- Each position, with a byte that is good there; LEN 32; draining; and IDLE. -/
theorem wit_GoodCharacterIsTakenAsField (p : RxField) (b : Byte) :
    (attempt (receiveAt p []) false).takes 42 ∧ (attempt (receiveAt p []) false).formed 42 ∧ CarriesByte (busCharacter b) b ∧
      (attempt (receiveAt p []) false).engine.state = .receive ∧
      (attempt (receiveAt p []) false).inFlight = some { tx := identify3, discard := false } ∧
      (attempt (receiveAt p []) false).engine.draining = false ∧ (attempt (receiveAt p []) false).engine.position = p ∧
      slotByte identify3.slot ||| 0x80 = 0x83 ∧ identify3.work.code = 1 ∧ (32 : Byte).toNat ≤ 32 ∧
      (attempt (drainingWith .parity forming) false).formed 42 ∧
      (attempt (drainingWith .parity forming) false).engine.draining = true ∧
      ({ State.reset with engine := { Engine.cold 0 with receiver := forming } } : State).formed 42 ∧
      ({ State.reset with engine := { Engine.cold 0 with receiver := forming } } : State).engine.state ≠ .receive :=
  ⟨attemptOf_takes _ _ _ _ _, formed_42 _ _ _ _ _, busCharacter_carries b, rfl, rfl, rfl, rfl, by decide, rfl, by decide,
    ⟨_, rfl, by decide⟩, rfl, ⟨_, rfl, by decide⟩, by decide⟩

/-- The states above; a low stop bit, an even number of ones, a byte that fails at each position, LEN 33. -/
theorem wit_ErrorBeginsDraining :
    (0x000 : BusBits).getLsbD 0 = false ∧ (0x000 : BusBits).getLsbD 10 = false ∧ (0x400 : BusBits).getLsbD 0 = false ∧
      (0x400 : BusBits).getLsbD 10 = true ∧ ((List.range 9).countP fun n => (0x400 : BusBits).getLsbD (n + 1)) % 2 = 0 ∧
      (0x03 : Byte) ≠ slotByte identify3.slot ||| 0x80 ∧ (2 : Byte) ≠ identify3.work.code ∧ 32 < (33 : Byte).toNat ∧
      ∀ b, CarriesByte (busCharacter b) b :=
  ⟨by decide, by decide, by decide, by decide, by decide, by decide, by decide, by decide, busCharacter_carries⟩

/-- A status record as a response body carries it, and one that is malformed in its condition code. -/
def statusBody (c : Byte) (flags : Byte) : List Byte := [c, flags, 0, 0, 0]

theorem statusBody_bytes (c : Condition) (flags : Byte) :
    StatusBytes (statusBody c.code flags) { condition := c, standDown := flags.getLsbD 0, faultCode := 0, text := [] } :=
  ⟨flags, 0, 0, 0, [], rfl, by decide, by decide, rfl, rfl, rfl⟩

theorem statusBody_malformed (flags : Byte) (r : StatusRecord) : ¬StatusBytes (statusBody 0 flags) r := by
  rintro ⟨_, _, _, _, _, h, -⟩
  cases hc : r.condition <;> simp [statusBody, hc, Condition.code] at h

/-- The check byte of every response: any byte of any character, with the CRC at 0. -/
theorem wit_CheckByteIsJudged (x : Transaction) (r : SlotRecord) (h : r.state ≠ .queued) (payload : List Byte) (d : Bool)
    (b : Byte) :
    (attemptOf x r (receiveAt .check payload) d).takes 42 ∧ QueueLaw (attemptOf x r (receiveAt .check payload) d) ∧
      (attemptOf x r (receiveAt .check payload) d).engine.state = .receive ∧
      (attemptOf x r (receiveAt .check payload) d).engine.draining = false ∧
      (attemptOf x r (receiveAt .check payload) d).inFlight = some { tx := x, discard := d } ∧
      (attemptOf x r (receiveAt .check payload) d).engine.position = .check ∧
      (attemptOf x r (receiveAt .check payload) d).formed 42 ∧ CarriesByte (busCharacter b) b ∧
      (attemptOf x r (receiveAt .check payload) d).engine.rxPayload = payload ∧
      (attemptOf x r (receiveAt .check payload) d).engine.crc = 0 ∧
      (attemptOf x r (receiveAt .check payload) d).slot slot3 = r ∧ 2 < (3 : Byte).toNat ∧ (2 : Byte).toNat = 2 ∧
      (1 : Byte).toNat = 1 :=
  ⟨attemptOf_takes _ _ _ _ _, attemptOf_queueLaw _ _ _ _ h, rfl, rfl, rfl, rfl, formed_42 _ _ _ _ _, busCharacter_carries b,
    rfl, rfl, attemptOf_self _ _ _ _, by decide, rfl, rfl⟩

/-- The owners: each kind of work; a status record of each condition with the stand-down flag clear and set, and a malformed
one; a relay's response of 24 and 25 bytes; a QUEUED slot. -/
theorem wit_CheckByteIsJudged_owners (c : Condition) :
    StatusBytes (statusBody c.code 0) { condition := c, standDown := false, faultCode := 0, text := [] } ∧
      StatusBytes (statusBody c.code 1) { condition := c, standDown := true, faultCode := 0, text := [] } ∧
      (∀ r, ¬StatusBytes (statusBody 0 0) r) ∧
      decide (24 < (List.replicate 24 (7 : Byte)).length) = false ∧
      decide (24 < (List.replicate 25 (7 : Byte)).length) = true ∧
      QueueLaw { queued3 with
        engine := receiveAt .check [0], inFlight := some { tx := work3 .status 0, discard := false } } ∧
      ((attemptOf (work3 .status 0) { seated .active .poll with failures := 2 } (receiveAt .check []) false).faultsAt slot3 3
        = true) ∧
      (attemptOf (work3 .status 0) { seated .active .poll with failures := 1 } (receiveAt .check []) false).faultsAt slot3 2
        = false :=
  ⟨statusBody_bytes c 0, statusBody_bytes c 1, statusBody_malformed 0, by decide, by decide, queued3_queueLaw,
    by decide +kernel, by decide +kernel⟩

/-- The four expiries, whatever the transaction, the slot and the mark, and every failure kind while draining. -/
theorem fails_at (x : Transaction) (r : SlotRecord) (d : Bool) (k : FailureKind) :
    FailsAt (attemptOf x r (awaiting (waitingFrom 0 false)) d) (.responseTimeoutExpiry 1000) 1000 .noResponse ∧
      FailsAt (attemptOf x r between d) (.responseGapExpiry 1000) 1000 .short ∧
      FailsAt (attemptOf x r (drainingWith k (waitingFrom 0 true)) d) (.drainIdleExpiry 1000) 1000 k ∧
      FailsAt (attemptOf x r (drainingWith k forming) d) (.drainLimitExpiry 1000) 1000 k :=
  ⟨.inl ⟨rfl, rfl, rfl, timer0, rfl, by decide⟩, .inr (.inl ⟨rfl, rfl, rfl, rfl, timer0, rfl, by decide⟩),
    .inr (.inr ⟨rfl, rfl, rfl, .inl ⟨rfl, timer0, rfl, by decide⟩⟩),
    .inr (.inr ⟨rfl, rfl, rfl, .inr ⟨rfl, timer0, rfl, by decide⟩⟩)⟩

/-- The receiver at each expiry: between characters, after a low stop bit at the expiry and before it, and within one;
what a relay's last attempt brings behind a SLOT_CHANGE, and what one before it brings. -/
theorem wit_ExpiryEndsTheAttempt_receiver (x : Transaction) (r : SlotRecord) (d : Bool) (k : FailureKind) (low : Bool) :
    (attemptOf x r (drainingWith k (waitingFrom 0 low)) d).engine.receiver = .waiting { free := 0, heldLow := low } ∧
      Instr.drainIdleExpiry 1000 ≠ .drainLimitExpiry 1000 ∧ ¬1000 ≤ 0 ∧
      (attemptOf x r (drainingWith k (waitingFrom 1000 low)) d).engine.receiver
        = .waiting { free := 1000, heldLow := low } ∧
      (attemptOf x r (drainingWith k forming) d).engine.receiver = .inCharacter { start := 0, dur := 42 } ∧
      (attemptOf x r between d).lastResult (work3 (.relay 1 [7]) 3) (.failed k)
        = [.relayResult 1 slot3 (.failed k) 3 0] ∧
      (attemptOf x r between d).lastResult (work3 (.relay 1 [7]) 2) (.failed k) = [] :=
  ⟨rfl, by decide, by decide, rfl, rfl, rfl, rfl⟩

/-- FAULT_LIMIT 3: two failures and a third fault an ACTIVE slot, one and a second do not; the mark clear and set. -/
theorem wit_ExpiryEndsTheAttempt (n : Nat) (d : Bool) (e : Engine) :
    (attemptOf (work3 .status 0) { seated .active .poll with failures := n } e d).takes 1000 ∧
      QueueLaw (attemptOf (work3 .status 0) { seated .active .poll with failures := n } e d) ∧
      (attemptOf (work3 .status 0) { seated .active .poll with failures := n } e d).inFlight
        = some { tx := work3 .status 0, discard := d } ∧
      SlotRecord.failuresAfter { seated .active .poll with failures := 2 } = 3 ∧
      SlotRecord.failuresAfter { seated .active .poll with failures := 15 } = 15 ∧
      (attemptOf (work3 .status 0) { seated .active .poll with failures := 2 } (awaiting forming) d).faultsAt slot3 3 = true ∧
      (attemptOf (work3 .status 0) { seated .active .poll with failures := 1 } (awaiting forming) d).faultsAt slot3 2 = false :=
  ⟨attemptOf_takes _ _ _ _ _, attemptOf_queueLaw _ _ _ _ (show SlotState.active ≠ .queued by decide), rfl, by decide,
    by decide,
    by cases d <;> decide +kernel, by cases d <;> decide +kernel⟩

/-- A check byte that equals the running CRC, after a payload. -/
theorem checks_at (x : Transaction) (r : SlotRecord) (payload : List Byte) (d : Bool) :
    ChecksAt (attemptOf x r (receiveAt .check payload) d) (.responseCheckByte 42 (busCharacter 0)) 42 :=
  ⟨rfl, rfl, rfl, formed_42 _ _ _ _ _, _, rfl, busCharacter_carries 0⟩

/-- A relay of an ACTIVE slot and RETRY_LIMIT 2: the second attempt is retried, the third is not; with a third failure, which
faults the slot, and with BUSY. -/
theorem wit_FailedAttemptIsRetriedOrEnds (k : FailureKind) (attempts failures : Nat) (e : Engine) :
    (attemptOf (work3 (.relay 1 [7]) attempts) { seated .active .poll with failures := failures } e false).takes 1000 ∧
      QueueLaw (attemptOf (work3 (.relay 1 [7]) attempts) { seated .active .poll with failures := failures } e false) ∧
      FailsAt (attemptOf (work3 (.relay 1 [7]) attempts) (seated .active .poll) (drainingWith k forming) false)
        (.drainLimitExpiry 1000) 1000 k ∧
      ChecksAt (attemptOf (work3 (.relay 1 [7]) attempts) (seated .active .poll) (receiveAt .check [1]) false)
        (.responseCheckByte 42 (busCharacter 0)) 42 ∧
      (attemptOf (work3 (.relay 1 [7]) 2) { seated .active .poll with failures := 2 } (awaiting forming) false).faultNotes slot3 3
        = [.slotChange slot3 .active .faulted .sidebandFault none] ∧
      (attemptOf (work3 (.relay 1 [7]) 2) { seated .active .poll with failures := 1 } (awaiting forming) false).faultNotes slot3 2
        = [] ∧
      1 + 1 ≤ State.reset.params.retryLimit ∧ State.reset.params.retryLimit < 2 + 1 :=
  ⟨attemptOf_takes _ _ _ _ _, attemptOf_queueLaw _ _ _ _ (show SlotState.active ≠ .queued by decide),
    (fails_at _ _ _ k).2.2.2, checks_at _ _ _ _, by decide +kernel, by decide +kernel, by decide, by decide⟩

/-- The other owners' ends: an IDENTIFY in IDENTIFYING, a STAND_DOWN in RELEASING, a STATUS. -/
theorem wit_FailedAttemptIsRetriedOrEnds_owners (w : Work) :
    FailsAt (attemptOf (work3 w 2) { SlotRecord.cold with state := .identifying } (awaiting (waitingFrom 0 false)) false)
        (.responseTimeoutExpiry 1000) 1000 .noResponse ∧
      ((attemptOf (work3 w 2) (seated .releasing .poll) (awaiting (waitingFrom 0 false)) false).slot slot3).state
        = .releasing ∧
      QueueLaw (attemptOf (work3 w 2) (seated .releasing .poll) (awaiting (waitingFrom 0 false)) false) ∧
      (work3 .identify 2).work.internal = true ∧ (work3 (.relay 1 [7]) 2).work.internal = false :=
  ⟨(fails_at _ _ _ .parity).1, congrArg SlotRecord.state (attemptOf_self _ _ _ _),
    attemptOf_queueLaw _ _ _ _ (show SlotState.releasing ≠ .queued by decide), rfl, rfl⟩

/-- An invalid record, and a valid one with each action of the table and units at the budget limit and above it. -/
theorem wit_IdentifyDoneFollowsTheTable (body : List Byte) :
    (attempt (receiveAt .check (0 :: body)) false).takes 42 ∧ QueueLaw (attempt (receiveAt .check (0 :: body)) false) ∧
      IdentityLaw (attempt (receiveAt .check (0 :: body)) false) ∧
      EnableLaw (attempt (receiveAt .check (0 :: body)) false) ∧
      ChecksAt (attempt (receiveAt .check (0 :: body)) false) (.responseCheckByte 42 (busCharacter 0)) 42 ∧
      (attempt (receiveAt .check (0 :: body)) false).engine.rxPayload = 0 :: body ∧
      (attempt (receiveAt .check (0 :: body)) false).inFlight
        = some { tx := { slot := slot3, work := .identify, attempts := 0, busy := 0 }, discard := false } ∧
      ((attempt (receiveAt .check (0 :: body)) false).slot slot3).state = .identifying ∧ identityOf [] = none ∧
      evaluate [] (identity 1 2 3 12 .poll) = .hold ∧
      evaluate [entry true none none 0 .refuse] (identity 1 2 3 12 .poll) = .refuse ∧
      evaluate [entry true none none 0 .admitModule] (identity 1 2 3 12 .poll) = .admitModule ∧ (budget 11).budgetLimit < 12 ∧
      12 ≤ (budget 12).budgetLimit := by
  have hl : IdentityLaw (withSlot { SlotRecord.cold with state := .identifying }) := by unfold IdentityLaw; decide +kernel
  have he : EnableLaw (withSlot { SlotRecord.cold with state := .identifying }) := by unfold EnableLaw; decide +kernel
  exact ⟨attemptOf_takes _ _ _ _ _, attemptOf_queueLaw _ _ _ _ (by decide), hl, he, checks_at _ _ _ _, rfl, rfl,
    congrArg SlotRecord.state (withSlot_self _), by decide, by decide, by decide, by decide, by decide, by decide⟩

/-- An open window with two records due, before, at and after the quiet point; at it, the quiet point first or not, and found
reached before or not. -/
def turning (taken : Bool) : State :=
  { State.reset with
    engine := { Engine.cold 0 with state := .turnaround, turnaround := some { start := 0, dur := 88 } }
    cycle := { Cycle.cold 0 with window := .opened, due := [1, 2], quietTaken := taken } }

theorem turning_quiet (taken : Bool) : (turning taken).cycle.quiet = 8000 := by cases taken <;> decide

theorem wit_TurnaroundEndServesTheWindow (taken : Bool) :
    (turning taken).takes 7999 ∧ (turning taken).engine.state = .turnaround ∧
      (turning taken).engine.turnaround = some { start := 0, dur := 88 } ∧
      ({ start := 0, dur := 88 } : Timer).due 7999 = true ∧ (turning taken).cycle.window ≠ .none ∧
      (turning taken).cycle.due = 1 :: [2] ∧ (turning taken).cycle.quietTaken = taken ∧
      7999 < (turning taken).cycle.quiet ∧ 8000 = (turning taken).cycle.quiet ∧ (turning taken).cycle.quiet < 8001 := by
  rw [turning_quiet]
  exact ⟨⟨rfl, Nat.zero_le _⟩, rfl, rfl, by decide, fun h => (by cases h), rfl, rfl, by decide, rfl, by decide⟩

/-- No record due, and one due with the engine in IDLE and in AWAIT. -/
theorem wit_CycleStartFormsTheWindow :
    State.reset.takes 9949 ∧ ParamLaw State.reset ∧
      State.reset.cycle.start + State.reset.cycle.period ≤ 9949 + Config.tolerance State.reset.cycle.period ∧
      (List.finRange 8).filter (fun k => (State.reset.beacon k).due (State.reset.cycle.number + 1)) = [] ∧
      (List.finRange 8).filter (fun k =>
        ((State.reset.setBeacon 3 { BeaconRecord.cold with state := .once }).beacon k).due 1) = 3 :: [] ∧
      State.reset.engine.state = .idle ∧ (attempt (awaiting forming) false).engine.state ≠ .idle :=
  ⟨reset_takes _, ⟨fun id => by cases id <;> rfl, by decide, by decide⟩, by decide, by decide +kernel, by decide +kernel, rfl,
    by decide⟩

/-- A frame in progress since 0, between two characters. -/
def inFrame (rx : HlRx) : State := { State.reset with rx := rx, rxGap := some { start := 0, dur := 5000 } }

/-- The next character of it may begin at any time up to 5000. -/
theorem inFrame_hears (rx : HlRx) (start : Nat) (h : start ≤ 5000) : (inFrame rx).hears 1 ⟨start, start + 82⟩ := by
  have ht : (inFrame rx).hostRate.receiveTime 1 = 82 := (by decide : HostRate.b115200.receiveTime 1 = 82)
  refine ⟨Nat.zero_le _, fun m hm => ?_, ?_, ?_⟩ <;> try rw [ht]
  · cases hm; exact Nat.le_trans h (Nat.le_add_right _ _)
  · exact Nat.le_add_right _ _
  · exact Nat.le_add_right _ _

/-- HUNT and the receiver in each state of a frame, at the first and the last instant of the gap; LEN 56, and the last payload
byte; and a character that begins before the last one's end, or from a line held low. -/
theorem wit_GoodCharacterMovesTheReceiver (rx : HlRx) :
    State.reset.takes 82 ∧ State.reset.hears 1 (spanOf 1) ∧ State.reset.rx = .hunt ∧ (inFrame rx).takes 5082 ∧
      (inFrame rx).hears 1 ⟨0, 82⟩ ∧ (inFrame rx).hears 1 ⟨5000, 5082⟩ ∧ (inFrame rx).rx = rx ∧ (56 : Byte).toNat ≤ 56 ∧
      ¬(1 + 1 < (2 : Byte).toNat) ∧ 1 + 1 < (3 : Byte).toNat ∧
      0 < ({ State.reset with hrxd := { free := 1, heldLow := false } } : State).hrxd.free ∧
      ({ State.reset with hrxd := { free := 0, heldLow := true } } : State).hrxd.heldLow = true :=
  ⟨reset_takes _, hears_span 1 rfl rfl rfl, rfl, ⟨rfl, Nat.zero_le _⟩, inFrame_hears rx 0 (by decide),
    inFrame_hears rx 5000 (by decide), rfl, by decide, by decide, by decide, by decide, rfl⟩

/-- Each of the three errors; the CRC error as a whole frame from HUNT and as the last character of the frame in progress; and
a line held low. -/
theorem wit_ReceptionErrorDropsTheFrame :
    State.reset.takes 82 ∧ State.reset.hears 1 ⟨0, 82⟩ ∧ (inFrame .headerLen).takes 5000 ∧ (inFrame .headerLen).rx ≠ .hunt ∧
      (inFrame .headerLen).rxGap = some { start := 0, dur := 5000 } ∧ ({ start := 0, dur := 5000 } : Timer).due 5000 = true ∧
      frameCrc 1 5 [] + 1 ≠ frameCrc 1 5 [] ∧
      State.reset.hearsFrame ⟨spanOf 6, 1, 5, []⟩ (frameCrc 1 5 [] + 1) ∧
      (inFrame (.check 1 5 [] (some (crcHigh (frameCrc 1 5 [] + 1))))).hearsFrame ⟨⟨0, 82⟩, 1, 5, []⟩ (frameCrc 1 5 [] + 1) ∧
      ({ State.reset with hrxd := { free := 0, heldLow := true } } : State).hrxd.heldLow = true :=
  ⟨reset_takes _, hears_span 1 rfl rfl rfl, ⟨rfl, Nat.zero_le _⟩, by decide, rfl, by decide, by decide +kernel,
    ⟨reset_takes _, .inr ⟨rfl, Nat.zero_le _, hears_span 6 rfl rfl rfl⟩⟩,
    ⟨⟨rfl, Nat.zero_le _⟩, .inl ⟨rfl, inFrame_hears _ 0 (by decide)⟩⟩, rfl⟩

theorem wit_LengthAboveFiftySixAbandonsTheFrame :
    (inFrame .headerLen).takes 82 ∧ (inFrame .headerLen).hears 1 ⟨0, 82⟩ ∧ (inFrame .headerLen).rx = .headerLen ∧
      56 < (57 : Byte).toNat := ⟨⟨rfl, Nat.zero_le _⟩, inFrame_hears _ 0 (by decide), rfl, by decide⟩

/-- An unknown KIND, a length not accepted, and RESTART with another kind. -/
theorem wit_UnacceptedFrameIsBadRequest :
    State.reset.receives ⟨spanOf 6, 0x13, 5, []⟩ ∧ accepts 0x13 0 = false ∧ State.reset.receives ⟨spanOf 7, 0x01, 5, [1]⟩ ∧
      accepts 0x01 1 = false ∧ State.reset.receives ⟨spanOf 7, 0x02, 5, [3]⟩ ∧ (3 : Byte).toNat ≠ 1 ∧ (3 : Byte).toNat ≠ 2 :=
  ⟨reset_receives _ _ _ rfl (by decide), by decide, reset_receives _ _ _ rfl (by decide), by decide,
    reset_receives _ _ _ rfl (by decide), by decide, by decide⟩

/-- A state in which HL hunts and hears from 0 on completes any frame. -/
theorem completes_span {s : State} (kind seq : Byte) (payload : List Byte) (h : payload.length ≤ 56) (hr : s.resetN = true)
    (h0 : s.now ≤ (spanOf (payload.length + 6)).stop) (hx : s.rx = .hunt) (h1 : s.hrxd = { free := 0, heldLow := false })
    (h2 : s.rxGap = none) (h3 : s.hostRate = .b115200) : s.completes ⟨spanOf (payload.length + 6), kind, seq, payload⟩ :=
  ⟨⟨hr, h0⟩, .inr ⟨hx, h, hears_span _ h1 h2 h3⟩⟩

/-- IDENT while a restart is pending, while the intake holds a frame behind one on HTXD and at the very instant it would start,
and answered from the cache. -/
theorem wit_FrameMeetsIntakeAndCache :
    (Instr.ident (spanOf 6) 5).wellFormed = true ∧ requestFrame (.ident (spanOf 6) 5) = some ⟨spanOf 6, 1, 5, []⟩ ∧
      ({ State.reset with restartPending := some .warm } : State).completes ⟨spanOf 6, 1, 5, []⟩ ∧
      ({ State.reset with intake := some waiting, tx := some onWire } : State).completes ⟨spanOf 6, 1, 5, []⟩ ∧
      (({ State.reset with intake := some waiting, tx := some onWire } : State).elapse (spanOf 6).stop).intake
        = some waiting ∧
      ({ State.reset with intake := some waiting, now := (spanOf 6).stop } : State).completes ⟨spanOf 6, 1, 5, []⟩ ∧
      (({ State.reset with intake := some waiting, now := (spanOf 6).stop } : State).elapse (spanOf 6).stop).intake
        = some waiting ∧
      ({ State.reset with cache := some { seq := 5, kind := 1, reply := identReply } } : State).completes
        ⟨spanOf 6, 1, 5, []⟩ := by
  refine ⟨by decide, rfl, ?_, ?_, by decide +kernel, ?_, by decide +kernel, ?_⟩ <;>
    exact completes_span _ _ [] (by decide) rfl (by decide) rfl rfl rfl rfl

/-- A waiting reply; a sent run before an unsent entry; a full window; no unsent entry. -/
def ending (f : Option Intake) (notes : List NoteEntry) : State :=
  { State.reset with tx := some onWire, intake := f, notes := notes }

theorem wit_FrameEndDecidesTheNextFrame :
    (ending (some waiting) []).takes 1000 ∧ (ending (some waiting) []).tx = some onWire ∧ onWire.timer.due 1000 = true ∧
      (ending (some waiting) []).restartPending = none ∧ (ending (some waiting) []).intake = some waiting ∧
      (ending none [note 0 true, note 1 false, note 2 false]).notes = [note 0 true] ++ note 1 false :: [note 2 false] ∧
      [note 0 true].length < (ending none []).params.noteWindow ∧
      (let full := ending none [note 0 true, note 1 true, note 2 true, note 3 true, note 4 false]
      full.params.noteWindow ≤ full.outstanding) ∧
      (∀ e ∈ (ending none [note 0 true]).notes, e.sent = true) :=
  ⟨⟨rfl, Nat.zero_le _⟩, rfl, by decide, rfl, rfl, rfl, by decide, by decide, by decide⟩

def restarting (k : RestartKind) : State := { State.reset with tx := some onWire, restartPending := some k }

/-- With slot 3 QUEUED. -/
def restartingQueued : State := { queued3 with tx := some onWire, restartPending := some .warm }

theorem wit_WarmRestartReissuesTheWork :
    restartingQueued.takes 1000 ∧ ParamLaw restartingQueued ∧ restartingQueued.tx = some onWire ∧
      onWire.timer.due 1000 = true ∧ restartingQueued.restartPending = some .warm ∧
      (List.finRange 24).filter (fun i => (restartingQueued.slot i).state = .queued) = [slot3] :=
  ⟨⟨rfl, Nat.zero_le _⟩, ⟨fun id => by cases id <;> rfl, by decide, by decide⟩, rfl, by decide, rfl, by decide +kernel⟩

theorem wit_ColdRestartIsAColdReset :
    (restarting .cold).takes 1000 ∧ (restarting .cold).tx = some onWire ∧ onWire.timer.due 1000 = true ∧
      (restarting .cold).restartPending = some .cold := ⟨⟨rfl, Nat.zero_le _⟩, rfl, by decide, rfl⟩

/-- With a frame on HTXD and without. -/
def resending (x : Option TxFrame) : State :=
  { State.reset with notes := [note 0 true], resendTimer := some timer0, tx := x }

theorem wit_ResendTimerGoesBack :
    ∀ x ∈ [none, some onWire], (resending x).takes 1000 ∧ ((resending x).elapse 1000).resendTimer = some timer0 ∧
      timer0.due 1000 = true ∧ ((resending x).elapse 1000).tx = x ∧ ((resending x).elapse 1000).restartPending = none ∧
      ((resending x).elapse 1000).intake = none ∧ 0 < (resending x).params.noteWindow ∧
      ((resending x).elapse 1000).notes = [note 0 true] := by
  unfold State.takes; decide +kernel

theorem wit_IdentReturnsTheConstants : State.reset.receives ⟨spanOf 6, 0x01, 5, []⟩ :=
  reset_receives _ _ _ rfl (by decide)

theorem wit_RestartIsAnsweredAndPending :
    State.reset.receives ⟨spanOf 7, 0x02, 5, [1]⟩ ∧ State.reset.receives ⟨spanOf 7, 0x02, 5, [2]⟩ :=
  ⟨reset_receives _ _ _ rfl (by decide), reset_receives _ _ _ rfl (by decide)⟩

/-- Slot bytes 0, 3, 24 and 25; a slot with an identity and one without. -/
theorem wit_SlotReadsReturnTheRecord (b : Byte) (r : SlotRecord) :
    (withSlot r).receives ⟨spanOf 7, 0x03, 5, [b]⟩ ∧ (withSlot r).receives ⟨spanOf 7, 0x06, 5, [b]⟩ ∧
    (withSlot r).slot slot3 = r ∧
      (3 : Byte).toNat = slot3.val + 1 ∧ (24 : Byte).toNat = (23 : Slot).val + 1 ∧ 24 < (25 : Byte).toNat ∧
      SlotRecord.cold.identity = none ∧ (seated .active .poll).identity = some (identity 0x0A31 4 3 12 .poll) :=
  ⟨withSlot_receives _ _ _ _ rfl (by decide), withSlot_receives _ _ _ _ rfl (by decide), withSlot_self r, rfl, rfl,
    by decide, rfl, rfl⟩

/-- Every state but QUEUED, and QUEUED. -/
theorem wit_ReleaseWithdrawsPower (r : SlotRecord) (h : r.state ≠ .queued) :
    QueueLaw (withSlot r) ∧ (withSlot r).receives ⟨spanOf 7, 0x04, 5, [3]⟩ ∧ (3 : Byte).toNat = slot3.val + 1 ∧
      (withSlot r).slot slot3 = r ∧ QueueLaw queued3 ∧ queued3.receives ⟨spanOf 7, 0x04, 5, [3]⟩ ∧
      (queued3.slot slot3).state = .queued :=
  ⟨withSlot_queueLaw r h, withSlot_receives _ _ _ _ rfl (by decide), rfl, withSlot_self r, queued3_queueLaw,
    withSlot_receives (seated .queued .poll) _ _ _ rfl (by decide), by decide +kernel⟩

/-- Every state; a relay of the slot in the list to cancel, and one marked in flight, which is not. -/
theorem wit_ClearIdentifiesAgain (r : SlotRecord) :
    (withSlot r).receives ⟨spanOf 7, 0x05, 5, [3]⟩ ∧ (3 : Byte).toNat = slot3.val + 1 ∧ (withSlot r).slot slot3 = r ∧
      ({ withSlot r with
          transactions := [work3 (.relay 2 [7]) 0], inFlight := some ⟨work3 (.relay 1 [7]) 0, true⟩ } : State).cancelResults
          slot3
        = [.relayResult 2 slot3 .cancelled 0 0] ∧ 24 < (25 : Byte).toNat ∧ (0 : Byte).toNat = 0 :=
  ⟨withSlot_receives _ _ _ _ rfl (by decide), rfl, withSlot_self r, by rfl, by decide, rfl⟩

/-- Index 15 and 16, a good entry, and a code that names nothing in each field. -/
theorem wit_AdmissionTableIsWrittenAndRead :
    State.reset.receives ⟨spanOf 15, 0x07, 5, 15 :: entryBytes ⟨1, 0, 0, 1, 4, 0, 3⟩⟩ ∧ (15 : Byte).toNat = (15 : Fin 16).val ∧
      admissionOf ⟨1, 0, 0, 1, 4, 0, 3⟩ = some (entry true none (some 4) 0 .refuse) ∧ 15 < (16 : Byte).toNat ∧
      1 < (2 : Byte).toNat ∧ (0 : Byte).toNat = 0 ∧ 3 < (4 : Byte).toNat ∧ State.reset.receives ⟨spanOf 7, 0x08, 5, [15]⟩ :=
  ⟨reset_receives _ _ _ rfl (by decide), rfl, by decide, by decide, by decide, rfl, by decide,
    reset_receives _ _ _ rfl (by decide)⟩

/-- Units above the budget limit and at it, in every state but QUEUED; that with the witness of RELEASE. -/
theorem wit_AdmitJoinsTheQueue (st : SlotState) (h : st ≠ .queued) :
    QueueLaw (withSlot (seated st .poll)) ∧ (withSlot (seated st .poll)).receives ⟨spanOf 7, 0x09, 5, [3]⟩ ∧
      ((withSlot (seated st .poll)).slot slot3).state = st ∧
      (withSlot (seated st .poll)).params.budgetLimit < ((withSlot (seated st .poll)).slot slot3).units ∧
      QueueLaw { withSlot (seated st .poll) with params := budget 12 } ∧
      ({ withSlot (seated st .poll) with params := budget 12 } : State).receives ⟨spanOf 7, 0x09, 5, [3]⟩ ∧
      ((withSlot (seated st .poll)).slot slot3).units ≤ (budget 12).budgetLimit := by
  rw [withSlot_self]
  exact ⟨withSlot_queueLaw _ h, withSlot_receives _ _ _ _ rfl (by decide), rfl, (by decide : 0 < 12),
    ⟨List.nodup_nil, (withSlot_queueLaw _ h).2.1, fun i hi => (by cases hi)⟩,
    withSlot_receives (seated st .poll) _ _ _ rfl (by decide), (by decide : 12 ≤ 12)⟩

/-- Payloads of 1 and 24 bytes; the quota free and full. -/
theorem wit_RelayIsTicketedOrRefused (r : SlotRecord) :
    1 ≤ [(7 : Byte)].length ∧ (List.replicate 24 (7 : Byte)).length ≤ 24 ∧
    (withSlot r).receives ⟨spanOf 8, 0x0A, 5, 3 :: [7]⟩ ∧
      (withSlot r).receives ⟨spanOf 31, 0x0A, 5, 3 :: List.replicate 24 7⟩ ∧ (withSlot r).slot slot3 = r ∧
      (withSlot r).relaysOutstanding < 8 ∧
      8 ≤ ({ withSlot r with transactions := List.replicate 8 (Transaction.fresh slot3 (.relay 1 [7])) } : State).relaysOutstanding :=
  ⟨by decide, by decide, withSlot_receives _ _ _ _ rfl (by decide), withSlot_receives _ _ _ _ rfl (by decide), withSlot_self r,
    (by decide : 0 < 8), (by decide : 8 ≤ 8)⟩

/-- Index 7 and 8, state 2 and 3, interval 0, phase at the interval and below it, payloads of 1 and 32 bytes. -/
theorem wit_BeaconWriteReplacesTheRecord (index state interval phase b : Byte) :
    State.reset.receives ⟨spanOf 11, 0x0B, 5, index :: state :: interval :: phase :: [b]⟩ ∧
      State.reset.receives ⟨spanOf 42, 0x0B, 5, index :: state :: interval :: phase :: List.replicate 32 b⟩ ∧
      (7 : Byte).toNat = (7 : Fin 8).val ∧ 7 < (8 : Byte).toNat ∧ (2 : Byte) = BeaconState.once.code ∧
      2 < (3 : Byte).toNat ∧
      (0 : Byte).toNat = 0 ∧ (2 : Byte).toNat ≤ (2 : Byte).toNat ∧ (1 : Byte).toNat < (2 : Byte).toNat :=
  ⟨reset_receives _ _ _ rfl (by decide), reset_receives _ _ _ rfl (by decide), rfl, by decide, rfl, by decide, rfl,
    by decide, by decide⟩

theorem wit_BeaconIsStoppedAndRead (index : Byte) :
    State.reset.receives ⟨spanOf 7, 0x0C, 5, [index]⟩ ∧ State.reset.receives ⟨spanOf 7, 0x0D, 5, [index]⟩ ∧
      (7 : Byte).toNat = (7 : Fin 8).val ∧ 7 < (8 : Byte).toNat :=
  ⟨reset_receives _ _ _ rfl (by decide), reset_receives _ _ _ rfl (by decide), rfl, by decide⟩

/-- The second of two sent entries; a number that no sent entry has. -/
def twoSent : State := { State.reset with notes := [note 0 true, note 1 true, note 2 false] }

/-- Behind a frame on HTXD, so that nothing starts before the frame is complete. -/
def twoSentBusy : State := { twoSent with tx := some onWire }

theorem wit_NoteAckRemovesTheRun (number : Half) :
    twoSentBusy.receives ⟨spanOf 8, 0x0E, 5, halfBytes number⟩ ∧
      (twoSentBusy.elapse (spanOf 8).stop).notes = [note 0 true] ++ note 1 true :: [note 2 false] ∧
      (note 1 true).sent = true ∧ (note 1 true).seq = 1 ∧ (∀ d ∈ [note 0 true], d.sent = true → d.seq ≠ 1) ∧
      (∀ e ∈ (twoSentBusy.elapse (spanOf 8).stop).notes, e.sent = true → e.seq ≠ 2) ∧
      (twoSent.elapse (spanOf 8).stop).notes = [note 0 true, note 1 true] ++ note 2 true :: [] :=
  ⟨withSlot_receives SlotRecord.cold _ _ _ rfl (by decide), by decide +kernel, rfl, rfl, by decide, by decide +kernel,
    by decide +kernel⟩

/-- An unknown identifier, a value out of range, a conflict, and values accepted. -/
theorem wit_SetParamChecksAndReplaces (id : Byte) (value : Half) :
    State.reset.receives ⟨spanOf 9, 0x0F, 5, id :: halfBytes value⟩ ∧ 17 < (18 : Byte).toNat ∧
      ParamId.lineGlitch.inRange 250 = true ∧ ParamId.lineGlitch.inRange 251 = false ∧
      State.reset.params.conflicts .lineGlitch 250 = false ∧
      ({ State.reset.params with lineAttnLimit := 2 } : Params).conflicts .lineGlitch 200 = true ∧
      ({ State.reset.params with lineAttnLimit := 2 } : Params).conflicts .lineGlitch 199 = false :=
  ⟨reset_receives _ _ _ rfl (by decide), by decide, rfl, rfl, by decide, by decide, by decide⟩

theorem queued31_laws : QueueLaw queued31 ∧ BlockedLaw queued31 := by unfold QueueLaw BlockedLaw; decide +kernel

/-- Two slots wait, one over a lowered limit and one within it; each limit. -/
theorem wit_SetParamOfALimitActsOnTheQueue (id : Byte) (value : Half) :
    queued31.receives ⟨spanOf 9, 0x0F, 5, id :: halfBytes value⟩ ∧ QueueLaw queued31 ∧ BlockedLaw queued31 ∧
      (4 : Byte) = ParamId.budgetLimit.code ∧ (5 : Byte) = ParamId.staggerLimit.code ∧
      ParamId.budgetLimit.inRange 11 = true ∧ ParamId.staggerLimit.inRange 4 = true ∧
      queued31.admissionQueue.filter (fun i => ParamId.budgetLimit = .budgetLimit ∧ 11 < (queued31.slot i).units) = [slot3] ∧
      queued31.admissionQueue.filter (fun i => ParamId.budgetLimit = .staggerLimit ∨ (queued31.slot i).units ≤ 11) = [0] ∧
      (queued31.slot slot3).units ≤ 12 :=
  ⟨withSlot_receives (seated .queued .poll) _ _ _ rfl (by decide), queued31_laws.1, queued31_laws.2, rfl, rfl, rfl, rfl,
    by decide +kernel, by decide +kernel, by decide +kernel⟩

theorem wit_GetParamReturnsTheValue (id : Byte) :
    State.reset.receives ⟨spanOf 7, 0x10, 5, [id]⟩ ∧ (17 : Byte) = ParamId.noteResend.code ∧ 17 < (18 : Byte).toNat :=
  ⟨reset_receives _ _ _ rfl (by decide), rfl, by decide⟩

theorem wit_CountersAreReadAndCleared (group : Byte) :
    State.reset.receives ⟨spanOf 7, 0x11, 5, [group]⟩ ∧ State.reset.receives ⟨spanOf 7, 0x12, 5, [group]⟩ ∧
      (24 : Byte).toNat = (23 : Slot).val + 1 ∧ 24 < (25 : Byte).toNat :=
  ⟨reset_receives _ _ _ rfl (by decide), reset_receives _ _ _ rfl (by decide), rfl, by decide⟩

/-! The invariants: the reset state with a command in its queue is lawful, and its step answers a next state. -/
def commanded : State := { State.reset with pending := [.hlFramingError ⟨0, 82⟩] }

theorem commanded_slot (i : Slot) : commanded.slot i = SlotRecord.cold := by
  simp [commanded, State.slot, State.reset, State.cold]

theorem commanded_classifier (i : Slot) : commanded.classifier i = .init (some (false, { start := 0, settle := 50 })) := by
  simp [commanded, State.classifier, State.reset, State.cold, Classifier.cold]

theorem commanded_lawful : Lawful commanded where
  line := fun i => by rw [commanded_slot, commanded_classifier]; rfl
  identity := fun i => by rw [commanded_slot]; exact ⟨fun _ => rfl, fun h => by cases h⟩
  admitted := fun i => by rw [commanded_slot]; rfl
  enable := fun i => by rw [commanded_slot]; rfl
  slotTimer := fun i => by rw [commanded_slot]; decide
  slotRange := fun i => by rw [commanded_slot]; exact ⟨by decide, fun d h => by cases h⟩
  power := by unfold PowerLaw; decide +kernel
  queue := by unfold QueueLaw; decide +kernel
  blocked := fun i h => by cases h
  transaction :=
    ⟨by decide, by decide, fun i => (by decide : 0 ≤ 1), fun x h => (by cases h), fun f h => (by cases h), by decide⟩
  engine := by unfold EngineLaw; decide +kernel
  receiver := by unfold ReceiverLaw; decide +kernel
  cycle := by unfold CycleLaw; decide +kernel
  beacon := by unfold BeaconLaw; decide +kernel
  note := by unfold NoteLaw; decide +kernel
  link := ⟨rfl, by decide, Nat.le_refl 0, fun m h => (by cases h), fun h => (by cases h), fun h => (by cases h)⟩
  param := ⟨fun id => by cases id <;> rfl, by decide, by decide⟩
  measure := fun i => by
    rw [commanded_classifier]
    refine ⟨fun m h => (by cases h), fun _ => rfl, fun l h => ?_, fun n h => ?_, ?_⟩
    · cases h; simp [commanded, State.reset, State.cold]
    · cases h; simp [commanded, State.reset, State.cold]
    · simp [commanded, State.reset, State.cold]

theorem wit_StepKeepsTheLaws : Lawful commanded ∧ ∃ s', step commanded = .next s' ∧ s'.partCount .hlFramingErrors = 1 :=
  ⟨commanded_lawful, _, rfl, by decide +kernel⟩

/-- A step after which one more entry is outstanding, and a step that grants slot 3: the premises of the clauses on the window
and on grants. -/
theorem wit_StepKeepsTheLaws_notes :
    ∃ s', step { State.reset with pending := [.txFrameEnd 781] } = .next s' ∧ State.reset.outstanding < s'.outstanding :=
  ⟨_, rfl, by decide +kernel⟩

theorem wit_StepKeepsTheLaws_grants :
    (queued31.slot slot3).state ≠ .enabling ∧
      ∃ s', step { queued31 with pending := [.setParam (spanOf 9) 5 4 40] } = .next s' ∧
        (s'.slot slot3).state = .enabling ∧ s'.committed = 32 ∧ s'.enablingCount = 1 :=
  ⟨by decide +kernel, _, rfl, by decide +kernel, by decide +kernel, by decide +kernel⟩

/-! ### Rows of the spec's worked sequences, one step each -/

/-- What a test looks at in the state a command answers. -/
def seen (c : Instr) (s : State) (look : State → List Nat) : List Nat :=
  match exec c s with
  | .next s' => look s'
  | .fault _ => []
  | .refused _ => []

/-- Table 2-6 at 201.000: a pulse of 1000 us at an ACTIVE slot is an ATTENTION: a STATUS entered, its report owed. -/
theorem test_attention_of_table_2_6 :
    seen (.risingEdgeInFallMeasuring 1000 slot3 1000) (withLine (seated .active .pulse) (.fallMeasuring fall0))
        (fun s => [(s.slotCount slot3 .attentions).toNat, s.transactions.length, (s.slot slot3).reportOwed.toNat])
      = [1, 1, 1] := by decide +kernel

/-- A notification raised with 63 entries stored is lost and marked; one raised behind an open marker adds to its count (R139,
R140). -/
theorem test_lost_notifications_are_marked :
    (let look := fun s : State => [(s.partCount .notesLost).toNat, s.notes.length, s.nextSeq.toNat]
    let fall := fun notes => { withLine (seated .pending .pulse) (.fallMeasuring fall0) with
      notes := notes, nextSeq := BitVec.ofNat 16 notes.length, tx := some onWire }
    [seen (.risingEdgeInFallMeasuring 1000 slot3 1000) (fall (unsent 62)) look,
      seen (.risingEdgeInFallMeasuring 1000 slot3 1000) (fall (unsent 63)) look,
      seen (.risingEdgeInFallMeasuring 1000 slot3 1000) (fall (unsent 63 ++ [marker 63 7])) look])
      = [[0, 63, 63], [1, 64, 64], [1, 64, 64]] := by decide +kernel

/-- RELEASE of an ACTIVE slot: its queued STATUS leaves the list, its relays and the other slots' entries keep their order, and
the STAND_DOWN stands at the tail (R79, R81, R83). -/
theorem test_release_keeps_relays_in_order :
    (let other := Transaction.fresh 0 .status
    match exec (.release (spanOf 7) 5 3) { withSlot (seated .active .poll) with
        tx := some onWire
        transactions := [work3 (.relay 1 [7]) 1, work3 .status 2, other, work3 (.relay 2 [7]) 0] } with
    | .next s => s.transactions == [work3 (.relay 1 [7]) 1, other, work3 (.relay 2 [7]) 0, work3 .standDown 0]
    | .fault _ => false
    | .refused _ => false) = true := by decide +kernel

/-- ATTENTION in ACTIVE: a queued STATUS keeps its place and its attempts; without one a fresh STATUS goes to the tail (R81).
-/
theorem test_attention_coalesces :
    (let relay := work3 (.relay 1 [7]) 1
    [[work3 .status 2, relay], [relay]].map fun l =>
      match exec (.risingEdgeInFallMeasuring 1000 slot3 1000)
          { withLine (seated .active .pulse) (.fallMeasuring fall0) with transactions := l } with
      | .next s => s.transactions
      | .fault _ => []
      | .refused _ => [])
      = [[work3 .status 2, work3 (.relay 1 [7]) 1], [work3 (.relay 1 [7]) 1, work3 .status 0]] := by decide +kernel

/-- Section 8.9: with 62 entries stored a departure raises four notifications, its SLOT_CHANGE and three RELAY_RESULTs; the
first is stored, the second brings the LOSS marker, which counts three. -/
theorem test_departure_of_8_9 :
    seen (.lowTimeDeadline 2000 slot3)
        { withLine (seated .active .poll) (.fallMeasuring fall0) with
          notes := unsent 62, nextSeq := 62, tx := some onWire
          transactions := [work3 (.relay 1 [7]) 0, work3 (.relay 2 [7]) 0, work3 (.relay 3 [7]) 0] }
        (fun s => [s.notes.length, (s.notes.getLast? == some (marker 63 3)).toNat, (s.partCount .notesLost).toNat,
          s.nextSeq.toNat, s.transactions.length])
      = [64, 1, 3, 64, 0] := by decide +kernel

/-- Table 3-6, step 1: with committed units of 48 and a limit of 60 the slot joins and is granted in the same event. -/
theorem test_identify_of_table_3_6 :
    seen (.responseCheckByte 42 (busCharacter 0))
        { attempt (receiveAt .check [0, 0x31, 0x0A, 4, 3, 1, 0, 0, 0, 12, 2, 0]) false with
          admission := State.reset.admission.set 0 (entry true (some 0x0A31) (some 4) 2 .admitModule)
          params := budget 60, committed := 48 }
        (fun s => [(s.slot slot3).state.code.toNat, (s.slot slot3).reason.code.toNat, s.committed, s.enablingCount,
          s.admissionQueue.length, s.notes.length])
      = [5, 12, 60, 1, 0, 3] := by decide +kernel

/-- Table 6-10 at 0: a relay of 3 bytes at 250 kbit/s takes 308 us. -/
theorem test_attempt_of_table_6_10 :
    seen (.attemptStart 0) { State.reset with transactions := [.fresh slot3 (.relay 20 [1, 2, 3])] }
        (fun s => [(s.engine.wire.map Timer.dur).getD 0, s.engine.frame.length, (s.partCount .sbAttempts).toNat])
      = [308, 7, 1] := by decide +kernel

/-- Table 9-8 at 2394.4: a frame that completes while the intake holds another sets its overrun flag. -/
theorem test_overrun_of_table_9_8 :
    seen (.noteAck (spanOf 8) 42 0) { State.reset with tx := some onWire, intake := some waiting }
        (fun s => [(s.partCount .hlOverruns).toNat, (s.intake.map fun f => f.overrun.toNat).getD 0]) = [1, 1] := by
  decide +kernel

/-- After a low stop bit an edge at the end of the character is no start bit; one at the instant at which draining ends, with
the line high in between, is (R107, R115). -/
theorem test_edge_at_the_end_of_draining :
    (let after := attempt (drainingWith .framing (waitingFrom 42 true)) false
    let look := fun s : State => [s.engine.state.drives.toNat, (s.engine.receiver.startsAt 1000).toNat,
      (s.engine.receiver.startsAt 42).toNat]
    seen (.drainIdleExpiry 1000) after look ++ [(after.engine.receiver.startsAt 42).toNat]) = [0, 1, 0, 0] := by decide +kernel

/-- And an edge at the end of HL's gap; the line held low since then begins none. -/
theorem test_edge_at_the_end_of_the_gap :
    (let held := { inFrame .headerLen with hrxd := { free := 82, heldLow := true } }
    let look := fun s : State => [(s.hrxd.startsAt 5000).toNat, (s.hrxd.startsAt 82).toNat]
    [seen (.hlGapAbort 5000) held look, [(held.hrxd.startsAt 82).toNat]]) = [[1, 0], [0]] := by decide +kernel

/-- A line held low after a framing error is no series: the next error needs the line high before it (R150). -/
theorem test_line_held_low_is_one_framing_error :
    (let held := { State.reset with hrxd := { free := 82, heldLow := true }, now := 82 }
    let look := fun s : State => [(s.partCount .hlFramingErrors).toNat]
    [seen (.hlFramingError ⟨0, 82⟩) State.reset look, seen (.hlFramingError ⟨82, 164⟩) held look,
      seen (.hlFramingError ⟨83, 165⟩) held look]) = [[1], [0], [1]] := by decide +kernel

/-- RESTARTED(COLD) starts on HTXD at reset: its frame of 9 characters ends at 781, and one entry is outstanding (R141,
R160). -/
theorem test_restarted_is_sent_from_reset :
    seen (.txFrameEnd 781) State.reset (fun s => [s.outstanding, s.tx.isSome.toNat, s.now]) = [1, 0, 781] := by
  decide +kernel

/-- A reply that becomes ready at the instant a notification is offered starts before it (R160). -/
theorem test_reply_goes_before_a_notification_of_the_same_instant :
    seen (.ident (spanOf 6) 5) { State.reset with now := (spanOf 6).stop }
        (fun s => [s.outstanding, (s.tx.map fun x => x.chars.length).getD 0, s.notes.length])
      = [0, (hostFrame 1 5 (identReply.payload false)).length, 1] := by decide +kernel

end Sys2Proof.Tests
end

section
/-! PROOFS. The admission table as the host writes and reads it: which codes of an entry name nothing, what the table's owner
does with each request, and O44. -/

namespace Sys2Proof.Machine.AdmissionTable

/-! ### Codes that name nothing (R177) -/

/-- Of a field with two values, 0 and 1, every greater code names nothing. -/
theorem twoCodes_eq_none_iff {α : Type} {b : Byte} {zero one : α} :
    (if b = 0 then some zero else if b = 1 then some one else none) = none ↔ 1 < b.toNat := by
  by_cases h0 : b = 0
  · subst h0; simp
  by_cases h1 : b = 1
  · subst h1; simp
  rw [if_neg h0, if_neg h1, eq_self, true_iff]
  bv_omega

theorem boolOfCode_eq_none_iff {b : Byte} : boolOfCode b = none ↔ 1 < b.toNat := twoCodes_eq_none_iff

theorem matchKind_ofCode_eq_none_iff {b : Byte} : MatchKind.ofCode b = none ↔ 1 < b.toNat := twoCodes_eq_none_iff

theorem admitAction_ofCode_eq_none_iff {b : Byte} : AdmitAction.ofCode b = none ↔ b.toNat = 0 ∨ 3 < b.toNat := by
  unfold AdmitAction.ofCode
  by_cases h1 : b = 1
  · subst h1; simp
  by_cases h2 : b = 2
  · subst h2; simp
  by_cases h3 : b = 3
  · subst h3; simp
  rw [if_neg h1, if_neg h2, if_neg h3, eq_self, true_iff]
  bv_omega

/-- An entry is malformed exactly when one of its four code-valued fields names nothing (R58). -/
theorem admissionOf_eq_none_iff {e : EntryBytes} :
    admissionOf e = none ↔ 1 < e.valid.toNat ∨ 1 < e.vendorMatch.toNat ∨ 1 < e.classMatch.toNat ∨
      e.action.toNat = 0 ∨ 3 < e.action.toNat := by
  rw [← boolOfCode_eq_none_iff, ← matchKind_ofCode_eq_none_iff, ← matchKind_ofCode_eq_none_iff,
    ← admitAction_ofCode_eq_none_iff]
  unfold admissionOf
  split
  · next hvalid hvendor hclass haction => simp only [hvalid, hvendor, hclass, haction, reduceCtorEq, or_self]
  · next hnone =>
    rw [eq_self, true_iff]
    refine Classical.byContradiction fun hall => ?_
    simp only [not_or, ← ne_eq, Option.ne_none_iff_exists'] at hall
    obtain ⟨⟨_, hvalid⟩, ⟨_, hvendor⟩, ⟨_, hclass⟩, ⟨_, haction⟩⟩ := hall
    exact hnone _ _ _ _ hvalid hvendor hclass haction

/-! ### The owner's part of the two requests -/

/-- A good entry for an index in range takes the place of the whole entry (R58). -/
theorem admissionWrite_replaces {index : Byte} {k : Fin 16} {e : EntryBytes} {a : AdmissionEntry}
    (hk : index.toNat = k.val) (ha : admissionOf e = some a) (s : State) :
    s.admissionWrite index e = (s.setEntry k a, .ok []) := by
  unfold State.admissionWrite
  rw [entryOf_eq hk, ha]

/-- An index out of range or a malformed entry writes nothing (R58). -/
theorem admissionWrite_malformed {index : Byte} {e : EntryBytes} (h : 15 < index.toNat ∨ admissionOf e = none) (s : State) :
    s.admissionWrite index e = (s, .badRequest) := by
  unfold State.admissionWrite
  split
  · next hk ha =>
    obtain hi | he := h
    · rw [entryOf_none hi] at hk; cases hk
    · rw [he] at ha; cases ha
  · rfl
  · rfl

/-- The reply to a read carries the entry as it stands (R60). -/
theorem admissionRead_entry {index : Byte} {k : Fin 16} (hk : index.toNat = k.val) (s : State) :
    s.admissionRead index = (s, .ok (s.entry k).bytes) := by
  unfold State.admissionRead
  rw [entryOf_eq hk]

theorem admissionRead_outOfRange {index : Byte} (h : 15 < index.toNat) (s : State) :
    s.admissionRead index = (s, .badRequest) := by
  unfold State.admissionRead
  rw [entryOf_none h]

/-! ### The two requests executed (R155 to R161) -/

/-- ADMISSION_WRITE is executed as its owner answers, if all it changes is the table. -/
theorem admissionWrite_executed {s : State} {t : Span} {seq index : Byte} {e : EntryBytes}
    {table : Vector AdmissionEntry 16} {r : Reply} (h : s.receives ⟨t, 0x07, seq, index :: entryBytes e⟩)
    (ho : (s.received s t.stop).admissionWrite index e
      = (State.received s { s with admission := table } t.stop, r)) :
    Executed (.admissionWrite t seq index e) s { s with admission := table } ⟨t, 0x07, seq, index :: entryBytes e⟩ r none :=
  requestEvent_executed h rfl rfl ho rfl rfl rfl rfl rfl rfl

/-- ADMISSION_READ is executed as its owner answers, and its owner changes nothing. -/
theorem admissionRead_executed {s : State} {t : Span} {seq index : Byte} {r : Reply}
    (h : s.receives ⟨t, 0x08, seq, [index]⟩)
    (ho : (s.received s t.stop).admissionRead index = (s.received s t.stop, r)) :
    Executed (.admissionRead t seq index) s s ⟨t, 0x08, seq, [index]⟩ r none :=
  requestEvent_executed h rfl rfl ho rfl rfl rfl rfl rfl rfl

/-- Settles O44: the owner's answer in each case, put through the execution of its request. -/
theorem admissionTableIsWrittenAndRead : Obligations.AdmissionTableIsWrittenAndRead := by
  unfold Obligations.AdmissionTableIsWrittenAndRead
  intro s t seq index e
  refine ⟨fun hwrite => ⟨fun k a hk ha => ?_, fun hbad => ?_⟩, fun hread => ⟨fun k hk => ?_, fun hout => ?_⟩⟩
  · exact admissionWrite_executed hwrite (admissionWrite_replaces hk ha _)
  · rw [← admissionOf_eq_none_iff] at hbad
    exact admissionWrite_executed hwrite (admissionWrite_malformed hbad _)
  · exact admissionRead_executed hread (admissionRead_entry hk _)
  · exact admissionRead_executed hread (admissionRead_outOfRange hout _)

end Sys2Proof.Machine.AdmissionTable
end

section
/-! PROOFS. The start of a bus cycle: the skips, the window and its first frame, and O29. -/

namespace Sys2Proof.Machine.BusCycle

/-! ### Counting (R171) -/

theorem countPartBy_partCount_ne {c d : PartCounter} (h : d ≠ c) (s : State) (n : Nat) :
    (s.countPartBy c n).partCount d = s.partCount d := by
  induction n generalizing s with
  | zero => rfl
  | succ n ih => rw [State.countPartBy, ih, State.countPart_count, if_neg h]

theorem countPartBy_partCount_toNat (s : State) (c : PartCounter) (n : Nat) :
    ((s.countPartBy c n).partCount c).toNat = saturated (s.partCount c) n := by
  induction n generalizing s with
  | zero =>
    have hlt := (s.partCount c).isLt
    show (s.partCount c).toNat = min ((s.partCount c).toNat + 0) (2 ^ 32 - 1)
    omega
  | succ n ih => rw [State.countPartBy, ih, State.countPart_count, if_pos rfl, saturated_satInc]

/-! ### What a change of the bus cycle leaves alone -/

/-- It causes no examination (Table 4-2). -/
theorem finish_cycleOnly {s x : State} (h : CycleOnly s x) : finish s x = x := by
  unfold CycleOnly at h
  exact finish_quiet _ _ (by rw [h]) (by rw [h]) (by rw [h]) (by rw [h]) (by rw [h])

/-- An event at `t` whose own actions change the bus cycle alone leaves every other block as the instant found it. -/
theorem cycleOnly_kept {s x : State} {t : Nat} (h : CycleOnly (s.elapse t) x) :
    QueuesKept s x ∧ x.slots = s.slots ∧ x.slotCounters = s.slotCounters ∧ Silent s x ∧ TablesKept s x ∧
      ReceiverKept s x ∧ TransmitterKept s x ∧ LinesKept s x := by
  unfold CycleOnly at h
  have hnow : x.now = t := by rw [h]; rfl
  unfold QueuesKept PowerKept Silent TablesKept ReceiverKept TransmitterKept LinesKept SamplesKept notesAt
  rw [hnow, h]
  simp

/-! ### A beacon frame (R118, R128, R130) -/

theorem beaconFrame_length (number : Half) (payload : List Byte) :
    (beaconFrame number payload).length = 6 + payload.length := by
  simp only [beaconFrame, busFrame, halfBytes, List.length_append, List.length_cons, List.length_nil]
  omega

theorem startBeacon_partCount (s : State) (k : Fin 8) (rest : List (Fin 8)) (d : PartCounter) :
    (s.startBeacon k rest).partCount d
      = if d = .beaconsSent then satInc (s.partCount .beaconsSent) else s.partCount d := by
  rw [← State.countPart_count]
  unfold State.startBeacon
  simp only
  split <;> rfl

theorem startBeacon_cycle_eq (s : State) (k : Fin 8) (rest : List (Fin 8)) :
    (s.startBeacon k rest).cycle = { s.cycle with due := rest } := by
  unfold State.startBeacon
  simp only
  split <;> rfl

/-- A ONCE record is idle after the start of its frame; no other record differs (R130). -/
theorem startBeacon_beacons (s : State) (k : Fin 8) (rest : List (Fin 8)) :
    (s.startBeacon k rest).beacons
      = (if (s.beacon k).state = .once then s.setBeacon k { s.beacon k with state := .idle } else s).beacons := by
  unfold State.startBeacon
  simp only
  split <;> rfl

/-- In an OPEN window the frame of record `k` starts now. -/
theorem startBeacon_started {s : State} (h : s.cycle.window = .opened) (k : Fin 8) (rest : List (Fin 8)) :
    BeaconStarted s (s.startBeacon k rest) s.now s.cycle.number k rest := by
  have hbeacon (j : Fin 8) : (s.startBeacon k rest).beacon j
      = (if (s.beacon k).state = .once then s.setBeacon k { s.beacon k with state := .idle } else s).beacon j :=
    congrArg (fun v : Vector BeaconRecord 8 => v[j]) (startBeacon_beacons s k rest)
  have hwire : (s.startBeacon k rest).engine.wire
      = some (s.timer ((beaconFrame s.cycle.number (s.beacon k).payload).length * s.params.sbRate.charTime)) := by
    unfold State.startBeacon
    simp only
    split <;> rfl
  refine ⟨rfl, rfl, rfl, rfl, ?_, ?_, ?_, ?_, fun j hj => ?_, ?_⟩
  · rw [hwire, beaconFrame_length, State.timer]
  · rw [startBeacon_cycle_eq]
  · rw [startBeacon_cycle_eq]; exact h
  · rw [hbeacon]; split
    · exact s.setBeacon_self _ _
    · rfl
  · rw [hbeacon]; split
    · exact s.setBeacon_ne hj _
    · rfl
  · rw [startBeacon_partCount, if_pos rfl]

/-- Of the state before, the start of a frame reads the parameters, the records and BEACONS_SENT. -/
theorem beaconStarted_of_same {s w x : State} {t : Nat} {number : Half} {k : Fin 8} {rest : List (Fin 8)}
    (h : BeaconStarted w x t number k rest) (hp : w.params = s.params) (hb : w.beacons = s.beacons)
    (hc : w.partCount .beaconsSent = s.partCount .beaconsSent) : BeaconStarted s x t number k rest := by
  unfold BeaconStarted State.beacon at *
  rwa [hp, hb, hc] at h

/-! ### The window of a new cycle (R122, R127, R129) -/

/-- The state with its window in this condition. -/
def withWindow (s : State) (w : Window) : State := { s with cycle := { s.cycle with window := w } }

/-- A cycle as it starts, before its window begins: the records left of the old one counted skipped, the parameters taken and
the due list formed. -/
def cycleTaken (s : State) (number : Half) : State :=
  { s with
    partCounters := (s.countPartBy .beaconsSkipped s.cycle.due.length).partCounters
    cycle := { number := number, start := s.now, period := periodTime s.params.cyclePeriod
               guardTime := tenthTime s.params.quietGuard, window := .none, due := s.dueList number
               quietTaken := false } }

theorem countPartBy_frame (s : State) (c : PartCounter) (n : Nat) :
    s.countPartBy c n = { s with partCounters := (s.countPartBy c n).partCounters } := by
  induction n generalizing s with
  | zero => rfl
  | succ n ih => exact ih (s.countPart c)

theorem startCycle_eq (s : State) (number : Half) : s.startCycle number = (cycleTaken s number).beginWindow := by
  unfold State.startCycle State.skipRest cycleTaken
  rw [countPartBy_frame]
  rfl

theorem cycleTaken_partCount_ne (s : State) (number : Half) {d : PartCounter} (h : d ≠ .beaconsSkipped) :
    (cycleTaken s number).partCount d = s.partCount d :=
  countPartBy_partCount_ne h s _

/-- A cycle starts before its own quiet point: the guard is at most half of a period of at least 2 ms (Table 10-1, R169). -/
theorem cycleTaken_beforeQuiet {s : State} (h : ParamLaw s) (number : Half) :
    (cycleTaken s number).beforeQuiet false = true := by
  obtain ⟨hrange, -, hguard⟩ := h
  have hperiod : 4 ≤ s.params.cyclePeriod ∧ s.params.cyclePeriod ≤ 200 := of_decide_eq_true (hrange .cyclePeriod)
  have hquiet : s.now < s.now + s.params.cyclePeriod * 500 - s.params.quietGuard * 100 := by
    unfold tenthTime periodTime at hguard
    omega
  exact Bool.or_eq_true_iff.mpr (Or.inl (decide_eq_true hquiet))

/-- With nothing due there is no window. -/
theorem beginWindow_absent {c : State} (h : c.cycle.due = []) : c.beginWindow = c := by
  unfold State.beginWindow
  rw [h]
  rfl

theorem serveWindow_starts {c : State} {k : Fin 8} {rest : List (Fin 8)} (h : c.cycle.due = k :: rest) :
    c.serveWindow true = c.startBeacon k rest := by
  unfold State.serveWindow
  rw [h]
  rfl

/-- The engine is idle: the window opens with the first frame. -/
theorem beginWindow_opens {c : State} {k : Fin 8} {rest : List (Fin 8)} (h : c.cycle.due = k :: rest)
    (hi : c.engine.state = .idle) (hq : c.beforeQuiet false = true) :
    c.beginWindow = (withWindow c .opened).startBeacon k rest := by
  have hserve : (withWindow c .opened).serveWindow true = (withWindow c .opened).startBeacon k rest := serveWindow_starts h
  have hopen : (withWindow c .opened).beforeQuiet false = true := hq
  rw [← hserve, ← hopen]
  unfold State.beginWindow
  rw [h, hi]
  rfl

/-- The engine is busy: the window waits, and in AWAIT and RECEIVE it is late. -/
theorem beginWindow_waits {c : State} {k : Fin 8} {rest : List (Fin 8)} (h : c.cycle.due = k :: rest)
    (hi : c.engine.state ≠ .idle) :
    c.beginWindow
      = { withWindow c .waiting with
          partCounters := (if c.engine.state = .await ∨ c.engine.state = .receive then c.countPart .beaconsLate
                           else c).partCounters } := by
  unfold State.beginWindow
  rw [h]
  cases he : c.engine.state with
  | idle => exact absurd he hi
  | await => rfl
  | receive => rfl
  | request => rfl
  | turnaround => rfl
  | beacon => rfl

theorem beginWindow_waits_partCount {c : State} {k : Fin 8} {rest : List (Fin 8)} (h : c.cycle.due = k :: rest)
    (hi : c.engine.state ≠ .idle) (d : PartCounter) :
    c.beginWindow.partCount d
      = if d = .beaconsLate ∧ (c.engine.state = .await ∨ c.engine.state = .receive) then
          satInc (c.partCount .beaconsLate)
        else c.partCount d := by
  rw [beginWindow_waits h hi]
  by_cases hlate : c.engine.state = .await ∨ c.engine.state = .receive
  · simp only [hlate, if_true, and_true]
    exact c.countPart_count .beaconsLate d
  · simp only [hlate, if_false, and_false]
    rfl

/-- A window that begins before the quiet point keeps the cycle's number and times, and counts no record skipped. -/
theorem beginWindow_kept {c : State} (hq : c.beforeQuiet false = true) :
    (∃ window due, c.beginWindow.cycle = { c.cycle with window := window, due := due }) ∧
      ∀ d : PartCounter, d ≠ .beaconsSent → d ≠ .beaconsLate → c.beginWindow.partCount d = c.partCount d := by
  cases hdue : c.cycle.due with
  | nil =>
    rw [beginWindow_absent hdue]
    exact ⟨⟨_, _, rfl⟩, fun _ _ _ => rfl⟩
  | cons k rest =>
    by_cases hidle : c.engine.state = .idle
    · rw [beginWindow_opens hdue hidle hq]
      exact ⟨⟨_, _, startBeacon_cycle_eq _ k rest⟩, fun d hsent _ => by rw [startBeacon_partCount, if_neg hsent]; rfl⟩
    · refine ⟨⟨.waiting, c.cycle.due, by rw [beginWindow_waits hdue hidle]; rfl⟩, fun d _ hlate => ?_⟩
      rw [beginWindow_waits_partCount hdue hidle, if_neg fun h => hlate h.1]

/-! ### A cycle start (R122, R126, R127, R129) -/

section

variable {s : State} {number : Half} {k : Fin 8} {rest : List (Fin 8)}

theorem startCycle_taken (h : ParamLaw s) :
    (s.startCycle number).cycle.number = number ∧ (s.startCycle number).cycle.start = s.now ∧
      (s.startCycle number).cycle.period = periodTime s.params.cyclePeriod ∧
      (s.startCycle number).cycle.guardTime = tenthTime s.params.quietGuard := by
  obtain ⟨⟨window, due, hcycle⟩, -⟩ := beginWindow_kept (cycleTaken_beforeQuiet h number)
  rw [startCycle_eq, hcycle]
  exact ⟨rfl, rfl, rfl, rfl⟩

theorem startCycle_skipped (h : ParamLaw s) :
    ((s.startCycle number).partCount .beaconsSkipped).toNat
      = saturated (s.partCount .beaconsSkipped) s.cycle.due.length := by
  obtain ⟨-, hcount⟩ := beginWindow_kept (cycleTaken_beforeQuiet h number)
  rw [startCycle_eq, hcount _ (by decide) (by decide)]
  exact countPartBy_partCount_toNat s _ _

theorem startCycle_partCount (h : ParamLaw s) {d : PartCounter} (hd : d ∉ [.beaconsSent, .beaconsLate, .beaconsSkipped]) :
    (s.startCycle number).partCount d = s.partCount d := by
  obtain ⟨-, hcount⟩ := beginWindow_kept (cycleTaken_beforeQuiet h number)
  simp only [List.mem_cons, List.not_mem_nil, or_false, not_or] at hd
  obtain ⟨hsent, hlate, hskipped⟩ := hd
  rw [startCycle_eq, hcount d hsent hlate, cycleTaken_partCount_ne s number hskipped]

theorem startCycle_absent (h : s.dueList number = []) :
    (s.startCycle number).cycle.window = .none ∧ (s.startCycle number).cycle.due = [] ∧
      (s.startCycle number).engine = s.engine ∧ (s.startCycle number).beacons = s.beacons ∧
      (s.startCycle number).partCount .beaconsSent = s.partCount .beaconsSent ∧
      (s.startCycle number).partCount .beaconsLate = s.partCount .beaconsLate := by
  have hcycle : s.startCycle number = cycleTaken s number :=
    (startCycle_eq s number).trans (beginWindow_absent (c := cycleTaken s number) h)
  rw [hcycle]
  exact ⟨rfl, h, rfl, rfl, cycleTaken_partCount_ne s _ (by decide), cycleTaken_partCount_ne s _ (by decide)⟩

theorem startCycle_opens (hp : ParamLaw s) (h : s.dueList number = k :: rest) (hidle : s.engine.state = .idle) :
    BeaconStarted s (s.startCycle number) s.now number k rest ∧
      (s.startCycle number).partCount .beaconsLate = s.partCount .beaconsLate := by
  have hcycle : s.startCycle number = (withWindow (cycleTaken s number) .opened).startBeacon k rest :=
    (startCycle_eq s number).trans
      (beginWindow_opens (c := cycleTaken s number) h hidle (cycleTaken_beforeQuiet hp number))
  rw [hcycle]
  refine ⟨beaconStarted_of_same (startBeacon_started rfl k rest) rfl rfl ?_, ?_⟩
  · exact cycleTaken_partCount_ne s number (by decide)
  · rw [startBeacon_partCount, if_neg (by decide)]
    exact cycleTaken_partCount_ne s number (by decide)

theorem startCycle_waits (h : s.dueList number = k :: rest) (hidle : s.engine.state ≠ .idle) :
    (s.startCycle number).cycle.window = .waiting ∧ (s.startCycle number).cycle.due = k :: rest ∧
      (s.startCycle number).engine = s.engine ∧ (s.startCycle number).beacons = s.beacons ∧
      (s.startCycle number).partCount .beaconsSent = s.partCount .beaconsSent ∧
      (s.startCycle number).partCount .beaconsLate
        = if s.engine.state = .await ∨ s.engine.state = .receive then satInc (s.partCount .beaconsLate)
          else s.partCount .beaconsLate := by
  have hsent : (cycleTaken s number).partCount .beaconsSent = s.partCount .beaconsSent :=
    cycleTaken_partCount_ne s _ (by decide)
  have hlate : (cycleTaken s number).partCount .beaconsLate = s.partCount .beaconsLate :=
    cycleTaken_partCount_ne s _ (by decide)
  have hcount := beginWindow_waits_partCount (c := cycleTaken s number) h hidle
  rw [← startCycle_eq] at hcount
  have hcycle := (startCycle_eq s number).trans (beginWindow_waits (c := cycleTaken s number) h hidle)
  refine ⟨by rw [hcycle]; rfl, by rw [hcycle]; exact h, by rw [hcycle]; rfl, by rw [hcycle]; rfl, ?_, ?_⟩
  · rw [hcount, if_neg fun h => PartCounter.noConfusion h.1, hsent]
  · rw [hcount, hlate]
    simp only [true_and]
    rfl

/-- The start of a cycle with any number: the next one's at CYCLE_START, 0 at a warm restart. -/
theorem startCycle_started (h : ParamLaw s) (number : Half) : CycleStarted s (s.startCycle number) s.now number := by
  obtain ⟨hnumber, hstart, hperiod, hguard⟩ := startCycle_taken (number := number) h
  exact ⟨hnumber, hstart, hperiod, hguard, startCycle_skipped h, startCycle_absent,
    fun _ _ hdue => ⟨startCycle_opens h hdue, startCycle_waits hdue⟩, fun _ => startCycle_partCount h⟩

end

/-- Of the state before, a cycle start reads nothing that the clock moves. -/
theorem cycleStarted_of_elapse {s x : State} {t u : Nat} {number : Half} (h : CycleStarted (s.elapse u) x t number) :
    CycleStarted s x t number := by
  rw [s.elapse_frame u] at h
  exact h

theorem exec_cycleStart {s : State} {t : Nat} (ht : s.takes t)
    (hdue : s.cycle.start + s.cycle.period ≤ t + Config.tolerance s.cycle.period) :
    exec (.cycleStart t) s = .next ((s.elapse t).startCycle (s.cycle.number + 1)) := by
  have htimer : ({ start := s.cycle.start, dur := s.cycle.period } : Timer).due t = true := by
    unfold Timer.due
    exact decide_eq_true hdue
  have hexec : exec (.cycleStart t) s = execCycleStart t s := rfl
  rw [hexec, execCycleStart, takeEvent_taken _ ht htimer, s.elapse_cycle, finish_cycleOnly (State.startCycle_cycle _ _)]

/-- Settles O29: the command answers the cycle's start, which the clock's move to its instant leaves as it is. -/
theorem cycleStartFormsTheWindow : Obligations.CycleStartFormsTheWindow := by
  unfold Obligations.CycleStartFormsTheWindow
  intro s t ht hparam hdue
  have hparam' : ParamLaw (s.elapse t) := by unfold ParamLaw; rwa [s.elapse_params t]
  exact ⟨_, exec_cycleStart ht hdue, cycleStarted_of_elapse (startCycle_started hparam' _),
    cycleOnly_kept (State.startCycle_cycle _ _)⟩

end Sys2Proof.Machine.BusCycle
end

section
/-! PROOFS. The beacon records as the host writes, stops and reads them: what the records' owner does with each request, and
O47 and O48. -/

namespace Sys2Proof.Machine.BeaconRecords

/-! ### The codes of a record's state (Table 7-3, R177) -/

theorem beaconState_ofCode_code (mode : BeaconState) : BeaconState.ofCode mode.code = some mode := by cases mode <;> rfl

theorem beaconState_ofCode_none {b : Byte} (h : 2 < b.toNat) : BeaconState.ofCode b = none := by
  unfold BeaconState.ofCode
  rw [if_neg (by bv_omega), if_neg (by bv_omega), if_neg (by bv_omega)]

theorem beaconState_ofCode_isSome {b : Byte} (h : b.toNat ≤ 2) : ∃ mode, BeaconState.ofCode b = some mode := by
  unfold BeaconState.ofCode
  by_cases h0 : b = 0
  · exact ⟨.idle, if_pos h0⟩
  by_cases h1 : b = 1
  · exact ⟨.periodic, by rw [if_neg h0, if_pos h1]⟩
  · exact ⟨.once, by rw [if_neg h0, if_neg h1, if_pos (by bv_omega)]⟩

/-! ### The owner's part of the requests (R131 to R134) -/

theorem onBeacon_record {index : Byte} {k : Fin 8} (h : index.toNat = k.val) (act : Fin 8 → State → State × Reply)
    (s : State) : onBeacon index act s = act k s := by
  unfold onBeacon
  rw [beaconOf_eq h]

theorem onBeacon_outOfRange {index : Byte} (h : 7 < index.toNat) (act : Fin 8 → State → State × Reply) (s : State) :
    onBeacon index act s = (s, .badRequest) := by
  unfold onBeacon
  rw [beaconOf_none h]

/-- Record `k` is now `b`, off the due list, and a WAITING window whose list this empties has ended (R131). -/
def replaced (s : State) (k : Fin 8) (b : BeaconRecord) : State :=
  { s with
    beacons := s.beacons.set k b
    cycle :=
      { s.cycle with
        due := s.cycle.due.filter (fun j => j ≠ k)
        window := if s.cycle.due.filter (fun j => j ≠ k) = [] ∧ s.cycle.window = .waiting then .none
                  else s.cycle.window } }

theorem setBeacon_dropDue (s : State) (k : Fin 8) (b : BeaconRecord) : (s.setBeacon k b).dropDue k = replaced s k b :=
  State.dropDue_eq _ k

section

variable {state interval phase : Byte} {payload : List Byte} {mode : BeaconState}

theorem beaconWrite_badState (h : BeaconState.ofCode state = none) (k : Fin 8) (s : State) :
    s.beaconWrite state interval phase payload k = (s, .badRequest) := by
  unfold State.beaconWrite
  rw [h]

theorem beaconWrite_noInterval (h : BeaconState.ofCode state = some mode) (hi : interval.toNat = 0) (k : Fin 8) (s : State) :
    s.beaconWrite state interval phase payload k = (s, .refused .range) := by
  unfold State.beaconWrite
  rw [h]
  exact if_pos (BitVec.eq_of_toNat_eq hi)

theorem beaconWrite_phaseTooLate (h : BeaconState.ofCode state = some mode) (hi : interval.toNat ≠ 0)
    (hp : interval.toNat ≤ phase.toNat) (k : Fin 8) (s : State) :
    s.beaconWrite state interval phase payload k = (s, .refused .conflict) := by
  unfold State.beaconWrite
  rw [h]
  exact (if_neg fun h0 => hi (congrArg BitVec.toNat h0)).trans (if_pos hp)

theorem beaconWrite_replaces (h : BeaconState.ofCode state = some mode) (hp : phase.toNat < interval.toNat) (k : Fin 8)
    (s : State) :
    s.beaconWrite state interval phase payload k
      = (replaced s k { state := mode, interval := interval, phase := phase, payload := payload }, .ok []) := by
  have hi : interval ≠ 0 := fun h0 => Nat.not_lt_zero _ (by rwa [h0] at hp)
  rw [← setBeacon_dropDue]
  unfold State.beaconWrite
  rw [h]
  exact (if_neg hi).trans (if_neg (Nat.not_le.mpr hp))

end

theorem beaconStop_replaces (k : Fin 8) (s : State) :
    s.beaconStop k = (replaced s k { s.beacon k with state := .idle }, .ok []) := by
  rw [← setBeacon_dropDue]
  rfl

/-! ### The requests executed (R155 to R161) -/

section

variable {s : State} {t : Span} {seq index state interval phase : Byte} {payload : List Byte}
  {beacons : Vector BeaconRecord 8} {cycle : Cycle} {r : Reply}

/-- BEACON_WRITE accepts payloads of 1 to 32 bytes behind its four fields (Table 11-2). -/
theorem beaconWrite_accepts (h1 : 1 ≤ payload.length) (h2 : payload.length ≤ 32) :
    accepts kindBeaconWrite (index :: state :: interval :: phase :: payload).length = true := by
  have hlengths : acceptedLengths kindBeaconWrite = some (5, 36) := rfl
  unfold accepts
  rw [hlengths]
  simp only [List.length_cons, Bool.and_eq_true, decide_eq_true_eq]
  omega

/-- BEACON_WRITE is executed as its owner answers, if all it changes is the records and the cycle. -/
theorem beaconWrite_executed (h1 : 1 ≤ payload.length) (h2 : payload.length ≤ 32)
    (h : s.receives ⟨t, 0x0B, seq, index :: state :: interval :: phase :: payload⟩)
    (ho : onBeacon index (State.beaconWrite state interval phase payload) (s.received s t.stop)
      = (State.received s { s with beacons := beacons, cycle := cycle } t.stop, r)) :
    Executed (.beaconWrite t seq index state interval phase payload) s { s with beacons := beacons, cycle := cycle }
      ⟨t, 0x0B, seq, index :: state :: interval :: phase :: payload⟩ r none :=
  requestEvent_executed h rfl (beaconWrite_accepts h1 h2) ho rfl rfl rfl rfl rfl rfl

/-- BEACON_STOP likewise. -/
theorem beaconStop_executed (h : s.receives ⟨t, 0x0C, seq, [index]⟩)
    (ho : onBeacon index State.beaconStop (s.received s t.stop)
      = (State.received s { s with beacons := beacons, cycle := cycle } t.stop, r)) :
    Executed (.beaconStop t seq index) s { s with beacons := beacons, cycle := cycle } ⟨t, 0x0C, seq, [index]⟩ r none :=
  requestEvent_executed h rfl rfl ho rfl rfl rfl rfl rfl rfl

/-- BEACON_READ is executed as its owner answers, and its owner changes nothing. -/
theorem beaconRead_executed (h : s.receives ⟨t, 0x0D, seq, [index]⟩)
    (ho : onBeacon index State.beaconRead (s.received s t.stop) = (s.received s t.stop, r)) :
    Executed (.beaconRead t seq index) s s ⟨t, 0x0D, seq, [index]⟩ r none :=
  requestEvent_executed h rfl rfl ho rfl rfl rfl rfl rfl rfl

end

/-- Settles O47: the owner's answer at the first check that fails, and the replacement when none does. -/
theorem beaconWriteReplacesTheRecord : Obligations.BeaconWriteReplacesTheRecord := by
  unfold Obligations.BeaconWriteReplacesTheRecord
  rintro s t seq index state interval phase payload f h1 h2 rfl hreceives
  refine ⟨fun hbad => ?_, fun hindex hstate hzero => ?_, fun hindex hstate hi hphase => ?_,
    fun k mode hk hmode hphase => ?_⟩
  · refine beaconWrite_executed h1 h2 hreceives ?_
    by_cases hout : 7 < index.toNat
    · exact onBeacon_outOfRange hout _ _
    · rw [onBeacon_record (k := ⟨index.toNat, by omega⟩) rfl]
      exact beaconWrite_badState (beaconState_ofCode_none (hbad.resolve_left hout)) _ _
  · obtain ⟨mode, hmode⟩ := beaconState_ofCode_isSome hstate
    refine beaconWrite_executed h1 h2 hreceives ?_
    rw [onBeacon_record (k := ⟨index.toNat, by omega⟩) rfl]
    exact beaconWrite_noInterval hmode hzero _ _
  · obtain ⟨mode, hmode⟩ := beaconState_ofCode_isSome hstate
    refine beaconWrite_executed h1 h2 hreceives ?_
    rw [onBeacon_record (k := ⟨index.toNat, by omega⟩) rfl]
    exact beaconWrite_phaseTooLate hmode hi hphase _ _
  · subst hmode
    refine beaconWrite_executed h1 h2 hreceives ?_
    rw [onBeacon_record hk]
    exact beaconWrite_replaces (beaconState_ofCode_code mode) hphase _ _

/-- Settles O48: the owner's answer to each request, for a record and for an index out of range. -/
theorem beaconIsStoppedAndRead : Obligations.BeaconIsStoppedAndRead := by
  unfold Obligations.BeaconIsStoppedAndRead
  intro s t seq index
  refine ⟨fun hstop => ⟨fun k hk => ?_, fun hout => ?_⟩, fun hread => ⟨fun k hk => ?_, fun hout => ?_⟩⟩
  · exact beaconStop_executed hstop ((onBeacon_record hk _ _).trans (beaconStop_replaces k _))
  · exact beaconStop_executed hstop (onBeacon_outOfRange hout _ _)
  · exact beaconRead_executed hread (onBeacon_record hk _ _)
  · exact beaconRead_executed hread (onBeacon_outOfRange hout _ _)

end Sys2Proof.Machine.BeaconRecords
end
